-- ==== Sys2Proof/Word.lean ====
section
/-! DEFINITION. The two word types of the machine (00_scope.md R5: 8-bit data, 16-bit address). -/

namespace Sys2Proof

/-- An 8-bit quantity: a register, a memory cell, an immediate, an opcode (R5, R7). -/
abbrev Byte := BitVec 8

/-- A 16-bit quantity: the program counter, the stack pointer, an address (R5, R23, R27). -/
abbrev Addr := BitVec 16

end Sys2Proof
end

