-- ==== Sys2Proof/Config.lean ====
section
/-! DEFINITION. The open parameters of 00_scope.md R6: the memory map, the EI delay, the environment, and the
values a reset draws. -/

namespace Sys2Proof

/-- What an address holds (`MemMap` of R6 and R66). -/
inductive MemKind where
  /-- writable memory -/
  | ram
  /-- read-only memory: a write is ignored -/
  | rom
  /-- nothing: the model refuses any access -/
  | absent
  deriving DecidableEq, Repr

/-- One stretch of addresses `base, …, base + size - 1` of one kind. -/
structure Region where
  base : Nat
  size : Nat
  kind : MemKind
  deriving DecidableEq, Repr

/-- What a platform fixes: `MemMap`, as a list of regions whose first match counts (an address in no region is `ram`, the
default of R6), and `EI_DELAY` (R6: 0 or 1, default 1). No step changes it. DESIGN CHOICE: log entry 1. -/
structure Config where
  memMap  : List Region := []
  eiDelay : Bool := true
  deriving DecidableEq, Repr

/-- What the environment shows at one instruction boundary (`Env` of 60_exceptions.md R202). -/
structure Env where
  /-- a system reset is applied at this boundary -/
  reset     : Bool := false
  /-- a TRAP request arrived since the last boundary -/
  trapEvent : Bool := false
  /-- the RST 7.5 input had a rising edge since the last boundary -/
  rst75Edge : Bool := false
  /-- the level of the RST 6.5 input now -/
  rst65     : Bool := false
  /-- the level of the RST 5.5 input now -/
  rst55     : Bool := false
  /-- the level of the INTR input now -/
  intr      : Bool := false
  /-- the opcode the external hardware places on the bus if INTR is acknowledged now -/
  inserted  : Byte := 0
  /-- the level of the SID line now -/
  sid       : Bool := false
  deriving DecidableEq, Repr, Inhabited

/-- The quiet environment: every field 0 (R202). -/
def Env.quiet : Env := {}

/-- FREE VALUE (log entry 2): environments of which nothing is known, the `k`-th of them a function of the boundary number
(`Env` is unconstrained, R202; 92_eei_decisions.md D14). It has no body. -/
opaque Config.freeEnv (k boundary : Nat) : Env

/-- What the environment shows at the boundaries behind the listed ones. -/
inductive EnvTail where
  /-- the same sample at every boundary: lines that are tied to a level, or quiet for ever -/
  | steady (e : Env)
  /-- any sample at any boundary: the `k`-th free environment -/
  | free (k : Nat)
  deriving DecidableEq, Repr

/-- The parameter `Env` of R6, as data: the samples of boundary 0, 1, … as far as they are listed, and what follows.
The default is the quiet environment, the default of R6. DESIGN CHOICE: log entry 2. -/
structure EnvOracle where
  listed : List Env := []
  tail   : EnvTail := .steady Env.quiet
  deriving DecidableEq, Repr

/-- One value for everything a reset leaves unspecified (`ResetDraw` of R6, 10_state.md R43). -/
structure ResetDraw where
  a  : Byte
  b  : Byte
  c  : Byte
  d  : Byte
  e  : Byte
  h  : Byte
  l  : Byte
  sp : Addr
  flagS  : Bool
  flagZ  : Bool
  flagAC : Bool
  flagP  : Bool
  flagCY : Bool
  deriving DecidableEq, Repr, Inhabited

/-- FREE VALUE (log entry 4): what the n-th reset event of a run leaves in the registers, SP and the flags (R240, D30).
It has no body: nothing is known of it but its type. -/
opaque Config.resetDraw : Nat → ResetDraw

end Sys2Proof
end

