-- ==== Sys2Proof/Machine/State.lean ====
section
/-! DEFINITION. The state of the machine as 10_state.md R44 lists it, with the open parameters of 00_scope.md R6 beside
it as data, the ways a step can stop, and the state after reset (R43). -/

namespace Sys2Proof.Machine

/-- The five flags, as five separate bits (10_state.md R28, R31). -/
structure Flags where
  s  : Bool
  z  : Bool
  ac : Bool
  p  : Bool
  cy : Bool
  deriving DecidableEq, Repr

/-- Memory: the cells that differ from what an unlisted address reads as, addresses strictly rising
(20_memory.md R50; `Memory.wf` in Machine/Ops.lean). -/
abbrev Memory := List Host.Cell

/-- The state of the machine. Rules without a file are of 10_state.md. -/
structure State where
  /-- the accumulator (R20) -/
  a : Byte
  /-- R20 -/
  b : Byte
  /-- R20 -/
  c : Byte
  /-- R20 -/
  d : Byte
  /-- R20 -/
  e : Byte
  /-- the high-order byte of HL (R20, R22) -/
  h : Byte
  /-- the low-order byte of HL (R20, R22) -/
  l : Byte
  /-- the program counter (R23) -/
  pc : Addr
  /-- the stack pointer (R27) -/
  sp : Addr
  /-- the five flags (R28) -/
  flags : Flags
  /-- the interrupt enable flip-flop (R33) -/
  ie : Bool
  /-- the mask of RST 7.5: true is masked (R34) -/
  m75 : Bool
  /-- the mask of RST 6.5 (R34) -/
  m65 : Bool
  /-- the mask of RST 5.5 (R34) -/
  m55 : Bool
  /-- the RST 7.5 flip-flop (R35) -/
  i75 : Bool
  /-- the latched TRAP request (R36) -/
  trapl : Bool
  /-- the serial output latch (R37) -/
  sod : Bool
  /-- the halt state (R39) -/
  halted : Bool
  /-- the EI delay (R40) -/
  eihold : Bool
  /-- the memory (R42, 20_memory.md R50) -/
  mem : Memory
  /-- the MODEL's field: the parameters `MemMap` and `EI_DELAY` (00_scope.md R6; log 1) -/
  cfg : Config
  /-- the MODEL's field: the parameter `Env` (00_scope.md R6, 60_exceptions.md R202; log 2) -/
  oracle : EnvOracle
  /-- the MODEL's field: the number of this instruction boundary, the argument of `Env` (92_eei_decisions.md D14; log 2) -/
  boundary : Nat
  /-- the MODEL's field: how many reset events have drawn `ResetDraw` (R43; log 4) -/
  draws : Nat
  deriving DecidableEq, Repr

/-- The faults. None: the machine raises no synchronous exception (60_exceptions.md R200; log 11). -/
inductive Fault where
  deriving DecidableEq, Repr

/-- The refusals: verdicts of the model, no events of the machine (00_scope.md R10). Each is safe: no claim about a run
that reaches it can be proved. -/
inductive Refusal where
  /-- an instruction that has no meaning yet; raised by a refused arm of exec, of which there is none; safe -/
  | notModelled (mnemonic : String)
  /-- the byte at `addr` belongs to an instruction the spec excludes (30_encoding.md R80); raised by its meaning; safe -/
  | outOfScopeOpcode (addr : Addr) (byte : Byte)
  /-- the byte at `addr` is one of the ten undefined bytes (30_encoding.md R81); raised by its meaning; safe -/
  | undefinedOpcode (addr : Addr) (byte : Byte)
  /-- external hardware inserts something other than an RST (60_exceptions.md R209); raised by interrupt entry; safe -/
  | insertedOpcode (byte : Byte)
  /-- `MemMap` says the address holds nothing (20_memory.md R66); raised by every memory access; safe -/
  | absentMemory (addr : Addr)
  deriving DecidableEq, Repr

/-- The five interrupt sources (60_exceptions.md R201). -/
inductive Source where
  | trap | rst75 | rst65 | rst55 | intr
  deriving DecidableEq, Repr

/-- The state after reset (R43): PC at 0000H, interrupts disabled and masked, nothing latched, not halted. What the spec
leaves unspecified is zero (DESIGN CHOICE, log 5), memory lists nothing (log 6), the parameters have their defaults
(log 1, 2) and boundaries are counted from 0. -/
def State.reset : State where
  a := 0
  b := 0
  c := 0
  d := 0
  e := 0
  h := 0
  l := 0
  pc := 0x0000
  sp := 0
  flags := ⟨false, false, false, false, false⟩
  ie := false
  m75 := true
  m65 := true
  m55 := true
  i75 := false
  trapl := false
  sod := false
  halted := false
  eihold := false
  mem := []
  cfg := {}
  oracle := {}
  boundary := 0
  draws := 0

/-! ## Updates, one for each field or group of fields a step writes -/

/-- Write A. -/
def State.setA (s : State) (v : Byte) : State :=
  { s with a := v }

/-- Write the flags. -/
def State.setFlags (s : State) (f : Flags) : State :=
  { s with flags := f }

/-- Write PC. -/
def State.setPc (s : State) (v : Addr) : State :=
  { s with pc := v }

/-- Write SP. -/
def State.setSp (s : State) (v : Addr) : State :=
  { s with sp := v }

/-- Write IE. -/
def State.setIe (s : State) (v : Bool) : State :=
  { s with ie := v }

/-- Write the three masks. -/
def State.setMasks (s : State) (v75 : Bool) (v65 : Bool) (v55 : Bool) : State :=
  { s with m75 := v75, m65 := v65, m55 := v55 }

/-- Write the RST 7.5 flip-flop. -/
def State.setI75 (s : State) (v : Bool) : State :=
  { s with i75 := v }

/-- Write the TRAP latch. -/
def State.setTrapl (s : State) (v : Bool) : State :=
  { s with trapl := v }

/-- Write SOD. -/
def State.setSod (s : State) (v : Bool) : State :=
  { s with sod := v }

/-- Write HALTED. -/
def State.setHalted (s : State) (v : Bool) : State :=
  { s with halted := v }

/-- Write EIHOLD. -/
def State.setEihold (s : State) (v : Bool) : State :=
  { s with eihold := v }

/-- Write memory. -/
def State.setMem (s : State) (m : Memory) : State :=
  { s with mem := m }

/-- Write the number of the boundary. -/
def State.setBoundary (s : State) (n : Nat) : State :=
  { s with boundary := n }

end Sys2Proof.Machine
end

