-- ==== Sys2Proof/Machine/Flags.lean ====
section
/-! DEFINITION. Every flag computation: the flag functions of 40_logical.md R100, the flags of the logical operations
and of the compare, the carry, and the condition test of 42_branch.md R150. -/

namespace Sys2Proof.Machine

/-- `sign(v) = v[7]` (R100). -/
def signFlag (v : Byte) : Bool := v.getLsbD 7

/-- `zero(v)`: v is 00H (R100). -/
def zeroFlag (v : Byte) : Bool := v == 0x00

/-- `parity(v)`: the number of 1 bits among the eight is even (R100). -/
def parityFlag (v : Byte) : Bool :=
  !(v.getLsbD 0 ^^ v.getLsbD 1 ^^ v.getLsbD 2 ^^ v.getLsbD 3 ^^ v.getLsbD 4 ^^ v.getLsbD 5 ^^ v.getLsbD 6 ^^ v.getLsbD 7)

/-- The flags after AND, OR and exclusive OR (R104 to R109): S, Z, P from the result, CY reset, AC as the rule says. -/
def logicFlags (result : Byte) (ac : Bool) : Flags :=
  ⟨signFlag result, zeroFlag result, ac, parityFlag result, false⟩

/-- The flags after a compare (R102, R103): those of the unsigned difference `d = (A - v) mod 256`; AC is the carry out of
bit 3 of `A + (~v) + 1`. -/
def compareFlags (acc v : Byte) : Flags :=
  let d := acc - v
  ⟨signFlag d, acc == v, decide (v.extractLsb' 0 4 ≤ acc.extractLsb' 0 4), parityFlag d, decide (acc < v)⟩

/-- The flags with the carry written and the others not affected (R110 to R113, R115, R116). -/
def Flags.withCarry (f : Flags) (c : Bool) : Flags := { f with cy := c }

/-- The eight conditions (R150, 30_encoding.md R75). -/
inductive Cond where
  | nz | z | nc | c | po | pe | p | m
  deriving DecidableEq, Repr

/-- `cond(ccc)` (R150): the flag named in the row of the condition has the value in that row. -/
def Cond.holds (f : Flags) : Cond → Bool
  | .nz => !f.z
  | .z  => f.z
  | .nc => !f.cy
  | .c  => f.cy
  | .po => !f.p
  | .pe => f.p
  | .p  => !f.s
  | .m  => f.s

end Sys2Proof.Machine
end

