-- ==== Sys2Proof/Syntax.lean ====
section
/-! DEFINITION. The instructions of spec/opcode_table.json: one constructor per mnemonic, the operand forms of its rows as
arguments. Logical, control and branching instructions are the spec's scope (00_scope.md R3); the others are the bytes the
spec lists so that the decoder is total and can name what it refuses (30_encoding.md R80, R81). -/

namespace Sys2Proof

/-- The seven general registers (10_state.md R20). -/
inductive Reg where
  | b | c | d | e | h | l | a
  deriving DecidableEq, Repr

/-- The operand `R M`: a register, or the byte at the address `H : L` (30_encoding.md R74, 40_logical.md R101). -/
inductive Operand where
  | reg (r : Reg)
  | mem
  deriving DecidableEq, Repr

/-- The register pair of LXI, STAX, LDAX, INX, DCX and DAD (rows of R80). -/
inductive RegPair where
  | b | d | h | sp
  deriving DecidableEq, Repr

/-- The register pair of PUSH and POP (rows of R80). -/
inductive StackPair where
  | b | d | h | psw
  deriving DecidableEq, Repr

/-- The instructions. An instruction of R80 carries only what its opcode byte says: the decoder refuses on that byte and
never reads an operand byte (R85; log entry 10). -/
inductive Instr where
  -- logical group (40_logical.md)
  /-- ANA: logical AND of register or memory with the accumulator (R104) -/
  | ana (x : Operand)
  /-- XRA: exclusive OR of register or memory with the accumulator (R106) -/
  | xra (x : Operand)
  /-- ORA: logical OR of register or memory with the accumulator (R108) -/
  | ora (x : Operand)
  /-- CMP: compare register or memory with the accumulator (R102) -/
  | cmp (x : Operand)
  /-- ANI: logical AND immediate (R105) -/
  | ani (data : Byte)
  /-- XRI: exclusive OR immediate (R107) -/
  | xri (data : Byte)
  /-- ORI: logical OR immediate (R109) -/
  | ori (data : Byte)
  /-- CPI: compare immediate (R103) -/
  | cpi (data : Byte)
  /-- RLC: rotate accumulator left (R110) -/
  | rlc
  /-- RRC: rotate accumulator right (R111) -/
  | rrc
  /-- RAL: rotate accumulator left through carry (R112) -/
  | ral
  /-- RAR: rotate accumulator right through carry (R113) -/
  | rar
  /-- CMA: complement accumulator (R114) -/
  | cma
  /-- CMC: complement carry (R115) -/
  | cmc
  /-- STC: set carry (R116) -/
  | stc
  -- control group (41_control.md)
  /-- NOP: no operation (R130) -/
  | nop
  /-- HLT: halt and enter wait state (R131) -/
  | hlt
  /-- DI: disable interrupts (R132) -/
  | di
  /-- EI: enable interrupts (R133) -/
  | ei
  /-- RIM: read interrupt mask (R134) -/
  | rim
  /-- SIM: set interrupt mask (R135) -/
  | sim
  -- branching group (42_branch.md)
  /-- JMP: jump unconditionally (R152) -/
  | jmp (addr : Addr)
  /-- JNZ: jump on no zero (R158) -/
  | jnz (addr : Addr)
  /-- JZ: jump on zero (R157) -/
  | jz (addr : Addr)
  /-- JNC: jump on no Carry (R154) -/
  | jnc (addr : Addr)
  /-- JC: jump on Carry (R153) -/
  | jc (addr : Addr)
  /-- JPO: jump on parity odd (R160) -/
  | jpo (addr : Addr)
  /-- JPE: jump on parity even (R159) -/
  | jpe (addr : Addr)
  /-- JP: jump on positive (R155) -/
  | jp (addr : Addr)
  /-- JM: jump on minus (R156) -/
  | jm (addr : Addr)
  /-- CALL: unconditional subroutine call (R161) -/
  | call (addr : Addr)
  /-- CNZ: call on no zero (R167) -/
  | cnz (addr : Addr)
  /-- CZ: call on zero (R166) -/
  | cz (addr : Addr)
  /-- CNC: call on no Carry (R163) -/
  | cnc (addr : Addr)
  /-- CC: call on Carry (R162) -/
  | cc (addr : Addr)
  /-- CPO: call on parity odd (R169) -/
  | cpo (addr : Addr)
  /-- CPE: call on parity even (R168) -/
  | cpe (addr : Addr)
  /-- CP: call on positive (R164) -/
  | cp (addr : Addr)
  /-- CM: call on minus (R165) -/
  | cm (addr : Addr)
  /-- RET: return from subroutine unconditionally (R170) -/
  | ret
  /-- RNZ: return on no zero (R176) -/
  | rnz
  /-- RZ: return on zero (R175) -/
  | rz
  /-- RNC: return on no Carry (R172) -/
  | rnc
  /-- RC: return on Carry (R171) -/
  | rc
  /-- RPO: return on parity odd (R178) -/
  | rpo
  /-- RPE: return on parity even (R177) -/
  | rpe
  /-- RP: return on positive (R173) -/
  | rp
  /-- RM: return on minus (R174) -/
  | rm
  /-- PCHL: load program counter with HL contents (R179) -/
  | pchl
  /-- RST: restart n (R180) -/
  | rst (n : BitVec 3)
  -- outside the spec's scope (R80): the data-transfer, arithmetic, stack and input-output instructions
  /-- LXI -/
  | lxi (pair : RegPair)
  /-- STAX -/
  | stax (pair : RegPair)
  /-- INX -/
  | inx (pair : RegPair)
  /-- INR -/
  | inr (x : Operand)
  /-- DCR -/
  | dcr (x : Operand)
  /-- MVI -/
  | mvi (x : Operand)
  /-- DAD -/
  | dad (pair : RegPair)
  /-- LDAX -/
  | ldax (pair : RegPair)
  /-- DCX -/
  | dcx (pair : RegPair)
  /-- SHLD -/
  | shld
  /-- DAA -/
  | daa
  /-- LHLD -/
  | lhld
  /-- STA -/
  | sta
  /-- LDA -/
  | lda
  /-- MOV -/
  | mov (dst : Operand) (src : Operand)
  /-- ADD -/
  | add (x : Operand)
  /-- ADC -/
  | adc (x : Operand)
  /-- SUB -/
  | sub (x : Operand)
  /-- SBB -/
  | sbb (x : Operand)
  /-- POP -/
  | pop (pair : StackPair)
  /-- PUSH -/
  | push (pair : StackPair)
  /-- ADI -/
  | adi
  /-- ACI -/
  | aci
  /-- OUT -/
  | outp
  /-- SUI -/
  | sui
  /-- IN -/
  | inp
  /-- SBI -/
  | sbi
  /-- XTHL -/
  | xthl
  /-- XCHG -/
  | xchg
  /-- SPHL -/
  | sphl
  /-- one of the ten opcode bytes that name no documented instruction (R81) -/
  | undefined (op : Byte)
  deriving DecidableEq, Repr

end Sys2Proof
end

