-- ==== Sys2Proof/WellFormed.lean ====
section
/-! DEFINITION. Which terms of Instr are instructions: the three checks the operand types do not make. -/

namespace Sys2Proof

/-- The ten opcode bytes that name no documented instruction (30_encoding.md R81). -/
def undefinedBytes : List Byte :=
  [0x08, 0x10, 0x18, 0x28, 0x38, 0xCB, 0xD9, 0xDD, 0xED, 0xFD]

/-- `Instr.wf i`: the operand is one a row of the opcode table has. STAX and LDAX take the pairs B and D only, MOV has no
row for memory to memory (76H is HLT), an undefined instruction is one of the ten bytes (R80, R81). -/
def Instr.wf : Instr → Bool
  | .ana _ => true
  | .xra _ => true
  | .ora _ => true
  | .cmp _ => true
  | .ani _ => true
  | .xri _ => true
  | .ori _ => true
  | .cpi _ => true
  | .rlc => true
  | .rrc => true
  | .ral => true
  | .rar => true
  | .cma => true
  | .cmc => true
  | .stc => true
  | .nop => true
  | .hlt => true
  | .di => true
  | .ei => true
  | .rim => true
  | .sim => true
  | .jmp _ => true
  | .jnz _ => true
  | .jz _ => true
  | .jnc _ => true
  | .jc _ => true
  | .jpo _ => true
  | .jpe _ => true
  | .jp _ => true
  | .jm _ => true
  | .call _ => true
  | .cnz _ => true
  | .cz _ => true
  | .cnc _ => true
  | .cc _ => true
  | .cpo _ => true
  | .cpe _ => true
  | .cp _ => true
  | .cm _ => true
  | .ret => true
  | .rnz => true
  | .rz => true
  | .rnc => true
  | .rc => true
  | .rpo => true
  | .rpe => true
  | .rp => true
  | .rm => true
  | .pchl => true
  | .rst _ => true
  | .lxi _ => true
  | .stax pair => pair == .b || pair == .d
  | .inx _ => true
  | .inr _ => true
  | .dcr _ => true
  | .mvi _ => true
  | .dad _ => true
  | .ldax pair => pair == .b || pair == .d
  | .dcx _ => true
  | .shld => true
  | .daa => true
  | .lhld => true
  | .sta => true
  | .lda => true
  | .mov dst src => !(dst == .mem && src == .mem)
  | .add _ => true
  | .adc _ => true
  | .sub _ => true
  | .sbb _ => true
  | .pop _ => true
  | .push _ => true
  | .adi => true
  | .aci => true
  | .outp => true
  | .sui => true
  | .inp => true
  | .sbi => true
  | .xthl => true
  | .xchg => true
  | .sphl => true
  | .undefined op => undefinedBytes.contains op

end Sys2Proof
end

