-- ==== Sys2Proof/Decode.lean ====
section
/-! DEFINITION. The decoder, total on any bytes, and after it the encoder. Both are written from the opcode tables of
30_encoding.md: R79 (the 85 bytes of the scope), R80 (the 161 bytes outside it), R81 (the ten undefined bytes). -/

namespace Sys2Proof

/-! ## Byte order and fields -/

/-- The 16-bit value with the given low-order and high-order bytes (`hi : lo`, 00_scope.md R7). -/
def ofBytes (lo hi : Byte) : Addr := hi ++ lo

/-- The low-order byte, `v[7:0]`. -/
def loByte (v : Addr) : Byte := v.extractLsb' 0 8

/-- The high-order byte, `v[15:8]`. -/
def hiByte (v : Addr) : Byte := v.extractLsb' 8 8

/-- Bits 2:0 of an opcode, the register field `sss` (R74). -/
def sss (op : Byte) : BitVec 3 := op.extractLsb' 0 3

/-- Bits 5:3 of an opcode: `nnn` of RST (R76), the destination of the rows of R80. -/
def nnn (op : Byte) : BitVec 3 := op.extractLsb' 3 3

/-- Bits 5:4 of an opcode, the register pair of the rows of R80. -/
def pairField (op : Byte) : BitVec 2 := op.extractLsb' 4 2

/-- The operand a register field selects (R74). -/
def Operand.ofCode (k : BitVec 3) : Operand :=
  match k.toNat with
  | 0 => .reg .b
  | 1 => .reg .c
  | 2 => .reg .d
  | 3 => .reg .e
  | 4 => .reg .h
  | 5 => .reg .l
  | 6 => .mem
  | _ => .reg .a

/-- The register field of an operand (R74). -/
def Operand.code : Operand → BitVec 3
  | .reg .b => 0b000
  | .reg .c => 0b001
  | .reg .d => 0b010
  | .reg .e => 0b011
  | .reg .h => 0b100
  | .reg .l => 0b101
  | .mem    => 0b110
  | .reg .a => 0b111

/-- The register pair a pair field selects (the `B / D / H / SP` columns of R80). -/
def RegPair.ofCode (k : BitVec 2) : RegPair :=
  match k.toNat with
  | 0 => .b
  | 1 => .d
  | 2 => .h
  | _ => .sp

/-- The pair field of a register pair. -/
def RegPair.code : RegPair → BitVec 2
  | .b => 0b00
  | .d => 0b01
  | .h => 0b10
  | .sp => 0b11

/-- The register pair of PUSH and POP a pair field selects (the `B / D / H / PSW` columns of R80). -/
def StackPair.ofCode (k : BitVec 2) : StackPair :=
  match k.toNat with
  | 0 => .b
  | 1 => .d
  | 2 => .h
  | _ => .psw

/-- The pair field of a register pair of PUSH and POP. -/
def StackPair.code : StackPair → BitVec 2
  | .b => 0b00
  | .d => 0b01
  | .h => 0b10
  | .psw => 0b11

/-! ## The opcode table -/

/-- Whether a row belongs to the spec's scope (the column `scope` of the opcode table). -/
inductive Scope where
  | inScope
  | outOfScope
  deriving DecidableEq, Repr

/-- A row of the opcode table: a first byte `b` selects it when `b AND mask = pat` and `b` is not excepted. `length` is the
length R79 or R80 gives, `build` the instruction read from the bytes. -/
structure OpcodeRow where
  mask   : Byte
  pat    : Byte
  excepted : List Byte := []
  length : Nat
  scope  : Scope
  build  : (b1 b2 b3 : Byte) → Instr

/-- A first byte selects the row. -/
def OpcodeRow.selects (r : OpcodeRow) (b : Byte) : Bool :=
  b &&& r.mask == r.pat && !r.excepted.contains b

/-- The rows of the logical group in R79. -/
def logicalRows : List OpcodeRow := [
  ⟨0xF8, 0xA0, [], 1, .inScope, fun b1 _ _ => .ana (Operand.ofCode (sss b1))⟩,
  ⟨0xF8, 0xA8, [], 1, .inScope, fun b1 _ _ => .xra (Operand.ofCode (sss b1))⟩,
  ⟨0xF8, 0xB0, [], 1, .inScope, fun b1 _ _ => .ora (Operand.ofCode (sss b1))⟩,
  ⟨0xF8, 0xB8, [], 1, .inScope, fun b1 _ _ => .cmp (Operand.ofCode (sss b1))⟩,
  ⟨0xFF, 0xE6, [], 2, .inScope, fun _ b2 _ => .ani b2⟩,
  ⟨0xFF, 0xEE, [], 2, .inScope, fun _ b2 _ => .xri b2⟩,
  ⟨0xFF, 0xF6, [], 2, .inScope, fun _ b2 _ => .ori b2⟩,
  ⟨0xFF, 0xFE, [], 2, .inScope, fun _ b2 _ => .cpi b2⟩,
  ⟨0xFF, 0x07, [], 1, .inScope, fun _ _ _ => .rlc⟩,
  ⟨0xFF, 0x0F, [], 1, .inScope, fun _ _ _ => .rrc⟩,
  ⟨0xFF, 0x17, [], 1, .inScope, fun _ _ _ => .ral⟩,
  ⟨0xFF, 0x1F, [], 1, .inScope, fun _ _ _ => .rar⟩,
  ⟨0xFF, 0x2F, [], 1, .inScope, fun _ _ _ => .cma⟩,
  ⟨0xFF, 0x3F, [], 1, .inScope, fun _ _ _ => .cmc⟩,
  ⟨0xFF, 0x37, [], 1, .inScope, fun _ _ _ => .stc⟩]

/-- The rows of the control group in R79. -/
def controlRows : List OpcodeRow := [
  ⟨0xFF, 0x00, [], 1, .inScope, fun _ _ _ => .nop⟩,
  ⟨0xFF, 0x76, [], 1, .inScope, fun _ _ _ => .hlt⟩,
  ⟨0xFF, 0xF3, [], 1, .inScope, fun _ _ _ => .di⟩,
  ⟨0xFF, 0xFB, [], 1, .inScope, fun _ _ _ => .ei⟩,
  ⟨0xFF, 0x20, [], 1, .inScope, fun _ _ _ => .rim⟩,
  ⟨0xFF, 0x30, [], 1, .inScope, fun _ _ _ => .sim⟩]

/-- The rows of the branching group in R79; the condition of a byte `11ccc…` is spelled out by R75. -/
def branchRows : List OpcodeRow := [
  ⟨0xFF, 0xC3, [], 3, .inScope, fun _ b2 b3 => .jmp (ofBytes b2 b3)⟩,
  ⟨0xFF, 0xC2, [], 3, .inScope, fun _ b2 b3 => .jnz (ofBytes b2 b3)⟩,
  ⟨0xFF, 0xCA, [], 3, .inScope, fun _ b2 b3 => .jz (ofBytes b2 b3)⟩,
  ⟨0xFF, 0xD2, [], 3, .inScope, fun _ b2 b3 => .jnc (ofBytes b2 b3)⟩,
  ⟨0xFF, 0xDA, [], 3, .inScope, fun _ b2 b3 => .jc (ofBytes b2 b3)⟩,
  ⟨0xFF, 0xE2, [], 3, .inScope, fun _ b2 b3 => .jpo (ofBytes b2 b3)⟩,
  ⟨0xFF, 0xEA, [], 3, .inScope, fun _ b2 b3 => .jpe (ofBytes b2 b3)⟩,
  ⟨0xFF, 0xF2, [], 3, .inScope, fun _ b2 b3 => .jp (ofBytes b2 b3)⟩,
  ⟨0xFF, 0xFA, [], 3, .inScope, fun _ b2 b3 => .jm (ofBytes b2 b3)⟩,
  ⟨0xFF, 0xCD, [], 3, .inScope, fun _ b2 b3 => .call (ofBytes b2 b3)⟩,
  ⟨0xFF, 0xC4, [], 3, .inScope, fun _ b2 b3 => .cnz (ofBytes b2 b3)⟩,
  ⟨0xFF, 0xCC, [], 3, .inScope, fun _ b2 b3 => .cz (ofBytes b2 b3)⟩,
  ⟨0xFF, 0xD4, [], 3, .inScope, fun _ b2 b3 => .cnc (ofBytes b2 b3)⟩,
  ⟨0xFF, 0xDC, [], 3, .inScope, fun _ b2 b3 => .cc (ofBytes b2 b3)⟩,
  ⟨0xFF, 0xE4, [], 3, .inScope, fun _ b2 b3 => .cpo (ofBytes b2 b3)⟩,
  ⟨0xFF, 0xEC, [], 3, .inScope, fun _ b2 b3 => .cpe (ofBytes b2 b3)⟩,
  ⟨0xFF, 0xF4, [], 3, .inScope, fun _ b2 b3 => .cp (ofBytes b2 b3)⟩,
  ⟨0xFF, 0xFC, [], 3, .inScope, fun _ b2 b3 => .cm (ofBytes b2 b3)⟩,
  ⟨0xFF, 0xC9, [], 1, .inScope, fun _ _ _ => .ret⟩,
  ⟨0xFF, 0xC0, [], 1, .inScope, fun _ _ _ => .rnz⟩,
  ⟨0xFF, 0xC8, [], 1, .inScope, fun _ _ _ => .rz⟩,
  ⟨0xFF, 0xD0, [], 1, .inScope, fun _ _ _ => .rnc⟩,
  ⟨0xFF, 0xD8, [], 1, .inScope, fun _ _ _ => .rc⟩,
  ⟨0xFF, 0xE0, [], 1, .inScope, fun _ _ _ => .rpo⟩,
  ⟨0xFF, 0xE8, [], 1, .inScope, fun _ _ _ => .rpe⟩,
  ⟨0xFF, 0xF0, [], 1, .inScope, fun _ _ _ => .rp⟩,
  ⟨0xFF, 0xF8, [], 1, .inScope, fun _ _ _ => .rm⟩,
  ⟨0xFF, 0xE9, [], 1, .inScope, fun _ _ _ => .pchl⟩,
  ⟨0xC7, 0xC7, [], 1, .inScope, fun b1 _ _ => .rst (nnn b1)⟩]

/-- The rows of R80: mnemonics and lengths of the bytes outside the scope. MOV is 40H to 7FH except 76H, which is HLT. -/
def outOfScopeRows : List OpcodeRow := [
  ⟨0xCF, 0x01, [], 3, .outOfScope, fun b1 _ _ => .lxi (RegPair.ofCode (pairField b1))⟩,
  ⟨0xEF, 0x02, [], 1, .outOfScope, fun b1 _ _ => .stax (RegPair.ofCode (pairField b1))⟩,
  ⟨0xCF, 0x03, [], 1, .outOfScope, fun b1 _ _ => .inx (RegPair.ofCode (pairField b1))⟩,
  ⟨0xC7, 0x04, [], 1, .outOfScope, fun b1 _ _ => .inr (Operand.ofCode (nnn b1))⟩,
  ⟨0xC7, 0x05, [], 1, .outOfScope, fun b1 _ _ => .dcr (Operand.ofCode (nnn b1))⟩,
  ⟨0xC7, 0x06, [], 2, .outOfScope, fun b1 _ _ => .mvi (Operand.ofCode (nnn b1))⟩,
  ⟨0xCF, 0x09, [], 1, .outOfScope, fun b1 _ _ => .dad (RegPair.ofCode (pairField b1))⟩,
  ⟨0xEF, 0x0A, [], 1, .outOfScope, fun b1 _ _ => .ldax (RegPair.ofCode (pairField b1))⟩,
  ⟨0xCF, 0x0B, [], 1, .outOfScope, fun b1 _ _ => .dcx (RegPair.ofCode (pairField b1))⟩,
  ⟨0xFF, 0x22, [], 3, .outOfScope, fun _ _ _ => .shld⟩,
  ⟨0xFF, 0x27, [], 1, .outOfScope, fun _ _ _ => .daa⟩,
  ⟨0xFF, 0x2A, [], 3, .outOfScope, fun _ _ _ => .lhld⟩,
  ⟨0xFF, 0x32, [], 3, .outOfScope, fun _ _ _ => .sta⟩,
  ⟨0xFF, 0x3A, [], 3, .outOfScope, fun _ _ _ => .lda⟩,
  ⟨0xC0, 0x40, [0x76], 1, .outOfScope, fun b1 _ _ => .mov (Operand.ofCode (nnn b1)) (Operand.ofCode (sss b1))⟩,
  ⟨0xF8, 0x80, [], 1, .outOfScope, fun b1 _ _ => .add (Operand.ofCode (sss b1))⟩,
  ⟨0xF8, 0x88, [], 1, .outOfScope, fun b1 _ _ => .adc (Operand.ofCode (sss b1))⟩,
  ⟨0xF8, 0x90, [], 1, .outOfScope, fun b1 _ _ => .sub (Operand.ofCode (sss b1))⟩,
  ⟨0xF8, 0x98, [], 1, .outOfScope, fun b1 _ _ => .sbb (Operand.ofCode (sss b1))⟩,
  ⟨0xCF, 0xC1, [], 1, .outOfScope, fun b1 _ _ => .pop (StackPair.ofCode (pairField b1))⟩,
  ⟨0xCF, 0xC5, [], 1, .outOfScope, fun b1 _ _ => .push (StackPair.ofCode (pairField b1))⟩,
  ⟨0xFF, 0xC6, [], 2, .outOfScope, fun _ _ _ => .adi⟩,
  ⟨0xFF, 0xCE, [], 2, .outOfScope, fun _ _ _ => .aci⟩,
  ⟨0xFF, 0xD3, [], 2, .outOfScope, fun _ _ _ => .outp⟩,
  ⟨0xFF, 0xD6, [], 2, .outOfScope, fun _ _ _ => .sui⟩,
  ⟨0xFF, 0xDB, [], 2, .outOfScope, fun _ _ _ => .inp⟩,
  ⟨0xFF, 0xDE, [], 2, .outOfScope, fun _ _ _ => .sbi⟩,
  ⟨0xFF, 0xE3, [], 1, .outOfScope, fun _ _ _ => .xthl⟩,
  ⟨0xFF, 0xEB, [], 1, .outOfScope, fun _ _ _ => .xchg⟩,
  ⟨0xFF, 0xF9, [], 1, .outOfScope, fun _ _ _ => .sphl⟩]

/-- The opcode table: the rows of R79 and R80. The bytes no row selects are the ten of R81. -/
def opcodeRows : List OpcodeRow :=
  logicalRows ++ controlRows ++ branchRows ++ outOfScopeRows

/-- The row a first byte selects. -/
def rowOf (b1 : Byte) : Option OpcodeRow :=
  opcodeRows.find? (fun r => r.selects b1)

/-! ## The decoder -/

/-- How many bytes the decoder reads (R83, R85): the length, for a byte of the scope; the opcode alone, for any other. -/
def fetchLength (b1 : Byte) : Nat :=
  match rowOf b1 with
  | some r => if r.scope = .inScope then r.length else 1
  | none => 1

/-- The instruction of an opcode byte and the two bytes after it (R85); bytes beyond `fetchLength` are not looked at. -/
def decodeBytes (b1 b2 b3 : Byte) : Instr :=
  match rowOf b1 with
  | some r => r.build b1 b2 b3
  | none => .undefined b1

/-- Why a list of bytes holds no instruction. Not raised by the machine, whose memory never runs out of bytes. -/
inductive DecodeError where
  /-- there is no byte at all; safe -/
  | noBytes
  /-- the opcode's operand bytes are missing; safe -/
  | truncated (opcode : Byte)
  deriving DecidableEq, Repr

/-- The instruction at the head of a list of bytes and the bytes after it. -/
def decode : List Byte → Except DecodeError (Instr × List Byte)
  | [] => .error .noBytes
  | b1 :: rest =>
    if (b1 :: rest).length < fetchLength b1 then .error (.truncated b1)
    else .ok (decodeBytes b1 (rest.getD 0 0) (rest.getD 1 0), (b1 :: rest).drop (fetchLength b1))

/-- The instruction of an opcode-table word of `nbits` bits, its first byte in bits 7:0; the bits above are 0. -/
def decodeTableWord (nbits w : Nat) : Option Instr :=
  let v := w % 2 ^ nbits
  match decode [BitVec.ofNat 8 v, BitVec.ofNat 8 (v / 256), BitVec.ofNat 8 (v / 65536)] with
  | .ok (i, _) => some i
  | .error _ => none

/-- The restart number of an inserted opcode byte, if it is an RST (60_exceptions.md R209: `b[7:6] = 11b` and
`b[2:0] = 111b`). -/
def insertedRestart (b : Byte) : Option (BitVec 3) :=
  if b.extractLsb' 6 2 = 0b11#2 ∧ b.extractLsb' 0 3 = 0b111#3 then some (nnn b) else none

/-! ## The encoder -/

/-- The opcode byte of an instruction (R79, R80, R81). -/
def opcode : Instr → Byte
  | .ana x => 0b10100#5 ++ x.code
  | .xra x => 0b10101#5 ++ x.code
  | .ora x => 0b10110#5 ++ x.code
  | .cmp x => 0b10111#5 ++ x.code
  | .ani _ => 0xE6
  | .xri _ => 0xEE
  | .ori _ => 0xF6
  | .cpi _ => 0xFE
  | .rlc => 0x07
  | .rrc => 0x0F
  | .ral => 0x17
  | .rar => 0x1F
  | .cma => 0x2F
  | .cmc => 0x3F
  | .stc => 0x37
  | .nop => 0x00
  | .hlt => 0x76
  | .di => 0xF3
  | .ei => 0xFB
  | .rim => 0x20
  | .sim => 0x30
  | .jmp _ => 0xC3
  | .jnz _ => 0xC2
  | .jz _ => 0xCA
  | .jnc _ => 0xD2
  | .jc _ => 0xDA
  | .jpo _ => 0xE2
  | .jpe _ => 0xEA
  | .jp _ => 0xF2
  | .jm _ => 0xFA
  | .call _ => 0xCD
  | .cnz _ => 0xC4
  | .cz _ => 0xCC
  | .cnc _ => 0xD4
  | .cc _ => 0xDC
  | .cpo _ => 0xE4
  | .cpe _ => 0xEC
  | .cp _ => 0xF4
  | .cm _ => 0xFC
  | .ret => 0xC9
  | .rnz => 0xC0
  | .rz => 0xC8
  | .rnc => 0xD0
  | .rc => 0xD8
  | .rpo => 0xE0
  | .rpe => 0xE8
  | .rp => 0xF0
  | .rm => 0xF8
  | .pchl => 0xE9
  | .rst n => 0b11#2 ++ n ++ 0b111#3
  | .lxi pair => 0b00#2 ++ pair.code ++ 0b0001#4
  | .stax pair => 0b00#2 ++ pair.code ++ 0b0010#4
  | .inx pair => 0b00#2 ++ pair.code ++ 0b0011#4
  | .inr x => 0b00#2 ++ x.code ++ 0b100#3
  | .dcr x => 0b00#2 ++ x.code ++ 0b101#3
  | .mvi x => 0b00#2 ++ x.code ++ 0b110#3
  | .dad pair => 0b00#2 ++ pair.code ++ 0b1001#4
  | .ldax pair => 0b00#2 ++ pair.code ++ 0b1010#4
  | .dcx pair => 0b00#2 ++ pair.code ++ 0b1011#4
  | .shld => 0x22
  | .daa => 0x27
  | .lhld => 0x2A
  | .sta => 0x32
  | .lda => 0x3A
  | .mov dst src => 0b01#2 ++ dst.code ++ src.code
  | .add x => 0b10000#5 ++ x.code
  | .adc x => 0b10001#5 ++ x.code
  | .sub x => 0b10010#5 ++ x.code
  | .sbb x => 0b10011#5 ++ x.code
  | .pop pair => 0b11#2 ++ pair.code ++ 0b0001#4
  | .push pair => 0b11#2 ++ pair.code ++ 0b0101#4
  | .adi => 0xC6
  | .aci => 0xCE
  | .outp => 0xD3
  | .sui => 0xD6
  | .inp => 0xDB
  | .sbi => 0xDE
  | .xthl => 0xE3
  | .xchg => 0xEB
  | .sphl => 0xF9
  | .undefined op => op

/-- The bytes after the opcode (R72, R73): 8-bit data, or the 16-bit address low-order byte first. -/
def operandBytes : Instr → List Byte
  | .ana _ => []
  | .xra _ => []
  | .ora _ => []
  | .cmp _ => []
  | .ani data => [data]
  | .xri data => [data]
  | .ori data => [data]
  | .cpi data => [data]
  | .rlc => []
  | .rrc => []
  | .ral => []
  | .rar => []
  | .cma => []
  | .cmc => []
  | .stc => []
  | .nop => []
  | .hlt => []
  | .di => []
  | .ei => []
  | .rim => []
  | .sim => []
  | .jmp addr => [loByte addr, hiByte addr]
  | .jnz addr => [loByte addr, hiByte addr]
  | .jz addr => [loByte addr, hiByte addr]
  | .jnc addr => [loByte addr, hiByte addr]
  | .jc addr => [loByte addr, hiByte addr]
  | .jpo addr => [loByte addr, hiByte addr]
  | .jpe addr => [loByte addr, hiByte addr]
  | .jp addr => [loByte addr, hiByte addr]
  | .jm addr => [loByte addr, hiByte addr]
  | .call addr => [loByte addr, hiByte addr]
  | .cnz addr => [loByte addr, hiByte addr]
  | .cz addr => [loByte addr, hiByte addr]
  | .cnc addr => [loByte addr, hiByte addr]
  | .cc addr => [loByte addr, hiByte addr]
  | .cpo addr => [loByte addr, hiByte addr]
  | .cpe addr => [loByte addr, hiByte addr]
  | .cp addr => [loByte addr, hiByte addr]
  | .cm addr => [loByte addr, hiByte addr]
  | .ret => []
  | .rnz => []
  | .rz => []
  | .rnc => []
  | .rc => []
  | .rpo => []
  | .rpe => []
  | .rp => []
  | .rm => []
  | .pchl => []
  | .rst _ => []
  | .lxi _ => []
  | .stax _ => []
  | .inx _ => []
  | .inr _ => []
  | .dcr _ => []
  | .mvi _ => []
  | .dad _ => []
  | .ldax _ => []
  | .dcx _ => []
  | .shld => []
  | .daa => []
  | .lhld => []
  | .sta => []
  | .lda => []
  | .mov _ _ => []
  | .add _ => []
  | .adc _ => []
  | .sub _ => []
  | .sbb _ => []
  | .pop _ => []
  | .push _ => []
  | .adi => []
  | .aci => []
  | .outp => []
  | .sui => []
  | .inp => []
  | .sbi => []
  | .xthl => []
  | .xchg => []
  | .sphl => []
  | .undefined _ => []

/-- The bytes of an instruction in address order; of an instruction outside the scope, the opcode byte alone (log 10). -/
def encode (i : Instr) : List Byte := opcode i :: operandBytes i

end Sys2Proof
end

