-- ==== Sys2Proof/Machine/Ops.lean ====
section
/-! DEFINITION. The named operations over memory, the stack, interrupts, reset and the fetch: everything the instructions
and the step share. -/

namespace Sys2Proof.Machine

/-! ## Memory cells -/

/-- What an unlisted address reads as. DESIGN CHOICE (log 6): 00H, as in the programs of 95_test_vectors.md part 3. -/
def Memory.background : Byte := 0x00

/-- The byte at an address. -/
def Memory.read : Memory → Nat → Byte
  | [], _ => Memory.background
  | (k, w) :: m, a => if k = a then w else Memory.read m a

/-- The memory with one byte written, its addresses still rising and no entry equal to the background. -/
def Memory.write : Memory → Nat → Byte → Memory
  | [], a, v => if v = Memory.background then [] else [(a, v)]
  | (k, w) :: m, a, v =>
    if k < a then (k, w) :: Memory.write m a v
    else if k = a then (if v = Memory.background then m else (a, v) :: m)
    else if v = Memory.background then (k, w) :: m
    else (a, v) :: (k, w) :: m

/-- The canonical form from a lower bound on: addresses at least `lo`, strictly rising, below 2^16, no background byte. -/
def Memory.wfFrom : Nat → Memory → Bool
  | _, [] => true
  | lo, (k, w) :: m =>
    decide (lo ≤ k) && decide (k < 65536) && decide (w ≠ Memory.background) && Memory.wfFrom (k + 1) m

/-- The canonical form of memory: equal memories are equal data. -/
def Memory.wf (m : Memory) : Bool := Memory.wfFrom 0 m

/-! ## Memory accesses -/

/-- `MemMap` (20_memory.md R66): the kind of the first region that holds the address; `ram` where none does. -/
def kindIn : List Region → Nat → MemKind
  | [], _ => .ram
  | r :: rs, a => if r.base ≤ a ∧ a < r.base + r.size then r.kind else kindIn rs a

/-- The kind of an address on this platform. -/
def State.kindAt (s : State) (a : Addr) : MemKind := kindIn s.cfg.memMap a.toNat

/-- The byte the memory holds at an address, whatever its kind. -/
def State.byteAt (s : State) (a : Addr) : Byte := Memory.read s.mem a.toNat

/-- `MemRead(addr, 1)` (R51). -/
def memRead (s : State) (a : Addr) : Except Refusal Byte :=
  match s.kindAt a with
  | .absent => .error (.absentMemory a)
  | .ram => .ok (s.byteAt a)
  | .rom => .ok (s.byteAt a)

/-- `MemWrite(addr, 1, v)` (R51): stores in `ram`, changes nothing in `rom`, refuses `absent`. -/
def memWrite (s : State) (a : Addr) (v : Byte) : Except Refusal State :=
  match s.kindAt a with
  | .absent => .error (.absentMemory a)
  | .ram => .ok (s.setMem (Memory.write s.mem a.toNat v))
  | .rom => .ok s

/-! ## The stack (42_branch.md R151) -/

/-- Where a push stores the high-order byte: `SP - 1` (R151; modulo 2^16, 20_memory.md R65). -/
def State.pushHiAddr (s : State) : Addr := s.sp - 1

/-- Where a push stores the low-order byte: `SP - 2`. -/
def State.pushLoAddr (s : State) : Addr := s.sp - 2

/-- `Push16(v)`: the high-order byte first, then the low-order byte, then SP. -/
def push16 (s : State) (v : Addr) : Except Refusal State :=
  match memWrite s s.pushHiAddr (hiByte v) with
  | .error r => .error r
  | .ok s1 =>
    match memWrite s1 s.pushLoAddr (loByte v) with
    | .error r => .error r
    | .ok s2 => .ok (s2.setSp (s.sp - 2))

/-- `Pop16()`: the low-order byte from SP, the high-order byte from SP + 1, then SP. -/
def pop16 (s : State) : Except Refusal (Addr × State) :=
  match memRead s s.sp with
  | .error r => .error r
  | .ok lo =>
    match memRead s (s.sp + 1) with
    | .error r => .error r
    | .ok hi => .ok (ofBytes lo hi, s.setSp (s.sp + 2))

/-! ## Outcomes -/

/-- A state or a refusal, as an outcome. A refusal carries no state: the step is discarded whole (00_scope.md R10;
log 12). -/
def settle : Except Refusal State → Host.Outcome State Fault Refusal
  | .ok s => .next s
  | .error r => .refused r

/-- Push the return address PC and go to a target: the two lines of CALL (42_branch.md R161), RST (R180) and interrupt
entry (60_exceptions.md R208). -/
def callTo (target : Addr) (s : State) : Except Refusal State :=
  match push16 s s.pc with
  | .error r => .error r
  | .ok s1 => .ok (s1.setPc target)

/-- Pop PC: RET (42_branch.md R170) and the return from an interrupt handler (60_exceptions.md R211). -/
def returnFrom (s : State) : Except Refusal State :=
  match pop16 s with
  | .error r => .error r
  | .ok (target, s1) => .ok (s1.setPc target)

/-- The restart address `8 * n` (30_encoding.md R76). -/
def restartAddr (n : BitVec 3) : Addr := n.setWidth 16 * 8

/-- The refusal of an instruction outside the spec's scope (30_encoding.md R80): no state changes. The decoder reads the
opcode alone (R85), so PC stands one past it (log 10). -/
def refuseOutOfScope (i : Instr) (s : State) : Host.Outcome State Fault Refusal :=
  .refused (.outOfScopeOpcode (s.pc - 1) (opcode i))

/-! ## The environment (60_exceptions.md R202, R203) -/

/-- What `Env` shows at a boundary (R202): the listed sample, or what follows the list (log 2). -/
def State.sample (s : State) (n : Nat) : Env :=
  match s.oracle.listed[n]? with
  | some e => e
  | none =>
    match s.oracle.tail with
    | .steady e => e
    | .free k => Config.freeEnv k n

/-- What `Env` shows at this boundary. -/
def State.env (s : State) : Env := s.sample s.boundary

/-- Go on to the next boundary. -/
def State.passSample (s : State) : State := s.setBoundary (s.boundary + 1)

/-- Absorbing events (R203): a TRAP event and an RST 7.5 edge are latched, whatever IE and the masks are. -/
def absorb (s : State) : State :=
  (s.setTrapl (s.trapl || s.env.trapEvent)).setI75 (s.i75 || s.env.rst75Edge)

/-! ## Interrupts (60_exceptions.md R204 to R209) -/

/-- When a source can be taken (R204); `hold` is the value EIHOLD had at the start of the boundary (R207). -/
def canTake (hold : Bool) (s : State) : Source → Bool
  | .trap  => s.trapl
  | .rst75 => s.i75 && !s.m75 && s.ie && !hold
  | .rst65 => s.env.rst65 && !s.m65 && s.ie && !hold
  | .rst55 => s.env.rst55 && !s.m55 && s.ie && !hold
  | .intr  => s.env.intr && s.ie && !hold

/-- The source taken at a boundary, if any: the first that can be taken, in the priority order of R205. -/
def firstSource (hold : Bool) (s : State) : Option Source :=
  [Source.trap, .rst75, .rst65, .rst55, .intr].find? (canTake hold s)

/-- What an acknowledge changes beside the stack and PC (R208, R209): IE, EIHOLD, HALTED and the latch of the source taken. -/
def acknowledge (src : Source) (s : State) : State :=
  let t := ((s.setIe false).setEihold false).setHalted false
  match src with
  | .trap  => t.setTrapl false
  | .rst75 => t.setI75 false
  | .rst65 => t
  | .rst55 => t
  | .intr  => t

/-- Interrupt entry (R208, R209): PC was not advanced, so the address of the next instruction to execute is pushed. INTR
runs the RST the external hardware inserts; anything else inserted is refused (log 9). -/
def interruptEntry (src : Source) (s : State) : Except Refusal State :=
  match src with
  | .trap  => callTo 0x0024 (acknowledge .trap s)
  | .rst75 => callTo 0x003C (acknowledge .rst75 s)
  | .rst65 => callTo 0x0034 (acknowledge .rst65 s)
  | .rst55 => callTo 0x002C (acknowledge .rst55 s)
  | .intr  =>
    match insertedRestart s.env.inserted with
    | some n => callTo (restartAddr n) (acknowledge .intr s)
    | none => .error (.insertedOpcode s.env.inserted)

/-! ## Reset (70_reset_and_hazards.md R240) -/

/-- The reset sequence: the values of R240; the registers, SP and the flags take the free values of this draw (log 4);
memory is unchanged. -/
def resetSequence (s : State) : State :=
  let r := Config.resetDraw s.draws
  { s with
    pc := 0x0000, ie := false, m75 := true, m65 := true, m55 := true, i75 := false, trapl := false, sod := false,
    halted := false, eihold := false,
    a := r.a, b := r.b, c := r.c, d := r.d, e := r.e, h := r.h, l := r.l, sp := r.sp,
    flags := ⟨r.flagS, r.flagZ, r.flagAC, r.flagP, r.flagCY⟩,
    draws := s.draws + 1 }

/-! ## The fetch (30_encoding.md R85) -/

/-- The byte at `a` if the instruction is long enough to have it, and 0 without an access if not. -/
def fetchOperand (s : State) (wanted : Bool) (a : Addr) : Except Refusal Byte :=
  if wanted then memRead s a else .ok 0

/-- `Decode at PC`: the instruction and its length, its bytes read in ascending address order (20_memory.md R55). -/
def fetch (s : State) : Except Refusal (Instr × Nat) :=
  match memRead s s.pc with
  | .error r => .error r
  | .ok b1 =>
    match fetchOperand s (decide (2 ≤ fetchLength b1)) (s.pc + 1) with
    | .error r => .error r
    | .ok b2 =>
      match fetchOperand s (decide (3 ≤ fetchLength b1)) (s.pc + 2) with
      | .error r => .error r
      | .ok b3 => .ok (decodeBytes b1 b2 b3, fetchLength b1)

/-- PC moved past an instruction of `len` bytes, modulo 2^16 (10_state.md R24, R26). -/
def State.advance (s : State) (len : Nat) : State := s.setPc (s.pc + BitVec.ofNat 16 len)

end Sys2Proof.Machine
end

