-- ==== Sys2Proof/Machine/Operands.lean ====
section
/-! DEFINITION. The operand forms (20_memory.md R67): a register, or the byte at the address `H : L`. -/

namespace Sys2Proof.Machine

/-- `reg[i]` (10_state.md R20). -/
def State.reg (s : State) : Reg → Byte
  | .a => s.a
  | .b => s.b
  | .c => s.c
  | .d => s.d
  | .e => s.e
  | .h => s.h
  | .l => s.l

/-- `HL = H : L` (10_state.md R22). -/
def State.hl (s : State) : Addr := ofBytes s.l s.h

/-- `Src(sss)` (40_logical.md R101): the second operand of CMP, ANA, XRA, ORA. -/
def readOperand (x : Operand) (s : State) : Except Refusal Byte :=
  match x with
  | .reg r => .ok (s.reg r)
  | .mem => memRead s s.hl

/-- Read the second operand, then act on its value: a state, or the refusal of the read. -/
def withOperand (x : Operand) (s : State) (act : Byte → State) : Host.Outcome State Fault Refusal :=
  match readOperand x s with
  | .error r => .refused r
  | .ok v => .next (act v)

end Sys2Proof.Machine
end

