-- ==== Sys2Proof/Machine/Branch.lean ====
section
/-! DEFINITION. The branching instructions (42_branch.md): jumps, calls, returns, PCHL, RST. PC already stands past the
instruction, so it is the return address a call pushes. No flag and no general register changes. -/

namespace Sys2Proof.Machine

/-- A conditional jump (R153 to R160): to the operand if the condition holds, else on. -/
def jumpIf (k : Cond) (addr : Addr) (s : State) : Host.Outcome State Fault Refusal :=
  .next (if k.holds s.flags then s.setPc addr else s)

/-- A conditional call (R162 to R169): a call if the condition holds, else neither memory nor SP is touched. -/
def callIf (k : Cond) (addr : Addr) (s : State) : Host.Outcome State Fault Refusal :=
  if k.holds s.flags then settle (callTo addr s) else .next s

/-- A conditional return (R171 to R178): a return if the condition holds, else the stack is not read. -/
def returnIf (k : Cond) (s : State) : Host.Outcome State Fault Refusal :=
  if k.holds s.flags then settle (returnFrom s) else .next s

/-- JMP (R152): PC takes the operand. -/
def execJmp (addr : Addr) (s : State) : Host.Outcome State Fault Refusal :=
  .next (s.setPc addr)

/-- JNZ (R158): jump on no zero. -/
def execJnz (addr : Addr) (s : State) : Host.Outcome State Fault Refusal :=
  jumpIf .nz addr s

/-- JZ (R157): jump on zero. -/
def execJz (addr : Addr) (s : State) : Host.Outcome State Fault Refusal :=
  jumpIf .z addr s

/-- JNC (R154): jump on no Carry. -/
def execJnc (addr : Addr) (s : State) : Host.Outcome State Fault Refusal :=
  jumpIf .nc addr s

/-- JC (R153): jump on Carry. -/
def execJc (addr : Addr) (s : State) : Host.Outcome State Fault Refusal :=
  jumpIf .c addr s

/-- JPO (R160): jump on parity odd. -/
def execJpo (addr : Addr) (s : State) : Host.Outcome State Fault Refusal :=
  jumpIf .po addr s

/-- JPE (R159): jump on parity even. -/
def execJpe (addr : Addr) (s : State) : Host.Outcome State Fault Refusal :=
  jumpIf .pe addr s

/-- JP (R155): jump on positive. -/
def execJp (addr : Addr) (s : State) : Host.Outcome State Fault Refusal :=
  jumpIf .p addr s

/-- JM (R156): jump on minus. -/
def execJm (addr : Addr) (s : State) : Host.Outcome State Fault Refusal :=
  jumpIf .m addr s

/-- CALL (R161): PC is pushed, then takes the operand. -/
def execCall (addr : Addr) (s : State) : Host.Outcome State Fault Refusal :=
  settle (callTo addr s)

/-- CNZ (R167): call on no zero. -/
def execCnz (addr : Addr) (s : State) : Host.Outcome State Fault Refusal :=
  callIf .nz addr s

/-- CZ (R166): call on zero. -/
def execCz (addr : Addr) (s : State) : Host.Outcome State Fault Refusal :=
  callIf .z addr s

/-- CNC (R163): call on no Carry. -/
def execCnc (addr : Addr) (s : State) : Host.Outcome State Fault Refusal :=
  callIf .nc addr s

/-- CC (R162): call on Carry. -/
def execCc (addr : Addr) (s : State) : Host.Outcome State Fault Refusal :=
  callIf .c addr s

/-- CPO (R169): call on parity odd. -/
def execCpo (addr : Addr) (s : State) : Host.Outcome State Fault Refusal :=
  callIf .po addr s

/-- CPE (R168): call on parity even. -/
def execCpe (addr : Addr) (s : State) : Host.Outcome State Fault Refusal :=
  callIf .pe addr s

/-- CP (R164): call on positive. -/
def execCp (addr : Addr) (s : State) : Host.Outcome State Fault Refusal :=
  callIf .p addr s

/-- CM (R165): call on minus. -/
def execCm (addr : Addr) (s : State) : Host.Outcome State Fault Refusal :=
  callIf .m addr s

/-- RET (R170): PC takes the two bytes from the top of the stack. -/
def execRet (s : State) : Host.Outcome State Fault Refusal :=
  settle (returnFrom s)

/-- RNZ (R176): return on no zero. -/
def execRnz (s : State) : Host.Outcome State Fault Refusal :=
  returnIf .nz s

/-- RZ (R175): return on zero. -/
def execRz (s : State) : Host.Outcome State Fault Refusal :=
  returnIf .z s

/-- RNC (R172): return on no Carry. -/
def execRnc (s : State) : Host.Outcome State Fault Refusal :=
  returnIf .nc s

/-- RC (R171): return on Carry. -/
def execRc (s : State) : Host.Outcome State Fault Refusal :=
  returnIf .c s

/-- RPO (R178): return on parity odd. -/
def execRpo (s : State) : Host.Outcome State Fault Refusal :=
  returnIf .po s

/-- RPE (R177): return on parity even. -/
def execRpe (s : State) : Host.Outcome State Fault Refusal :=
  returnIf .pe s

/-- RP (R173): return on positive. -/
def execRp (s : State) : Host.Outcome State Fault Refusal :=
  returnIf .p s

/-- RM (R174): return on minus. -/
def execRm (s : State) : Host.Outcome State Fault Refusal :=
  returnIf .m s

/-- PCHL (R179): PC takes H as its high-order and L as its low-order byte. -/
def execPchl (s : State) : Host.Outcome State Fault Refusal :=
  .next (s.setPc s.hl)

/-- RST (R180): PC is pushed, then takes `8 * n`. -/
def execRst (n : BitVec 3) (s : State) : Host.Outcome State Fault Refusal :=
  settle (callTo (restartAddr n) s)

end Sys2Proof.Machine
end

