-- ==== Sys2Proof/Machine/Control.lean ====
section
/-! DEFINITION. The control instructions (41_control.md): NOP, HLT, DI, EI, RIM, SIM. PC already stands past the instruction. -/

namespace Sys2Proof.Machine

/-- The byte RIM loads (R134): SID, the RST 7.5 flip-flop, the levels of RST 6.5 and RST 5.5 as this boundary's sample of
`Env` shows them (log 3), IE and the three masks, bit 7 first. -/
def rimByte (s : State) : Byte :=
  BitVec.ofBool s.env.sid ++ BitVec.ofBool s.i75 ++ BitVec.ofBool s.env.rst65 ++ BitVec.ofBool s.env.rst55 ++
    BitVec.ofBool s.ie ++ BitVec.ofBool s.m75 ++ BitVec.ofBool s.m65 ++ BitVec.ofBool s.m55

/-- SIM's masks part (R135): with D3 (MSE) = 1 the masks take D2, D1, D0. -/
def simMasks (cmd : Byte) (s : State) : State :=
  if cmd.getLsbD 3 then s.setMasks (cmd.getLsbD 2) (cmd.getLsbD 1) (cmd.getLsbD 0) else s

/-- SIM's R7.5 part (R135): with D4 = 1 the RST 7.5 flip-flop is reset. -/
def simResetI75 (cmd : Byte) (s : State) : State :=
  if cmd.getLsbD 4 then s.setI75 false else s

/-- SIM's serial part (R135): with D6 (SDE) = 1 the SOD latch takes D7. -/
def simSod (cmd : Byte) (s : State) : State :=
  if cmd.getLsbD 6 then s.setSod (cmd.getLsbD 7) else s

/-- NOP (R130): nothing; PC has advanced. -/
def execNop (s : State) : Host.Outcome State Fault Refusal :=
  .next s

/-- HLT (R131): HALTED is set; PC stands at the byte after the HLT. -/
def execHlt (s : State) : Host.Outcome State Fault Refusal :=
  .next (s.setHalted true)

/-- DI (R132): IE and EIHOLD are reset. -/
def execDi (s : State) : Host.Outcome State Fault Refusal :=
  .next ((s.setIe false).setEihold false)

/-- EI (R133): IE is set, and EIHOLD if `EI_DELAY` is 1. -/
def execEi (s : State) : Host.Outcome State Fault Refusal :=
  .next ((s.setIe true).setEihold s.cfg.eiDelay)

/-- RIM (R134): A takes the status byte; no interrupt state and no flag changes. -/
def execRim (s : State) : Host.Outcome State Fault Refusal :=
  .next (s.setA (rimByte s))

/-- SIM (R135): the three independent parts of the command byte in A; A and the flags are unchanged, D5 is ignored. -/
def execSim (s : State) : Host.Outcome State Fault Refusal :=
  .next (simSod s.a (simResetI75 s.a (simMasks s.a s)))

end Sys2Proof.Machine
end

