-- ==== Sys2Proof/Machine/Logical.lean ====
section
/-! DEFINITION. The logical instructions (40_logical.md): CMP, CPI, ANA, ANI, XRA, XRI, ORA, ORI, RLC, RRC, RAL, RAR, CMA,
CMC, STC. PC already stands past the instruction (00_scope.md R9). -/

namespace Sys2Proof.Machine

/-- The result of AND, OR or exclusive OR: into A, with its flags (R104 to R109). -/
def setLogicResult (result : Byte) (ac : Bool) (s : State) : State :=
  (s.setA result).setFlags (logicFlags result ac)

/-- A and CY after a rotate; the other flags are not affected (R110 to R113). -/
def setRotated (result : Byte) (carry : Bool) (s : State) : State :=
  (s.setA result).setFlags (s.flags.withCarry carry)

/-- ANA (R104): A becomes A AND the operand; S, Z, P from the result, CY 0, AC 1. -/
def execAna (x : Operand) (s : State) : Host.Outcome State Fault Refusal :=
  withOperand x s fun v => setLogicResult (s.a &&& v) true s

/-- XRA (R106): A becomes A XOR the operand; S, Z, P from the result, CY 0, AC 0. -/
def execXra (x : Operand) (s : State) : Host.Outcome State Fault Refusal :=
  withOperand x s fun v => setLogicResult (s.a ^^^ v) false s

/-- ORA (R108): A becomes A OR the operand; S, Z, P from the result, CY 0, AC 0. -/
def execOra (x : Operand) (s : State) : Host.Outcome State Fault Refusal :=
  withOperand x s fun v => setLogicResult (s.a ||| v) false s

/-- CMP (R102): the flags show the comparison of A with the operand; A and the operand are unchanged. -/
def execCmp (x : Operand) (s : State) : Host.Outcome State Fault Refusal :=
  withOperand x s fun v => s.setFlags (compareFlags s.a v)

/-- ANI (R105): A becomes A AND the data; flags as ANA. -/
def execAni (data : Byte) (s : State) : Host.Outcome State Fault Refusal :=
  .next (setLogicResult (s.a &&& data) true s)

/-- XRI (R107): A becomes A XOR the data; flags as XRA. -/
def execXri (data : Byte) (s : State) : Host.Outcome State Fault Refusal :=
  .next (setLogicResult (s.a ^^^ data) false s)

/-- ORI (R109): A becomes A OR the data; flags as ORA. -/
def execOri (data : Byte) (s : State) : Host.Outcome State Fault Refusal :=
  .next (setLogicResult (s.a ||| data) false s)

/-- CPI (R103): the flags show the comparison of A with the data; A is unchanged. -/
def execCpi (data : Byte) (s : State) : Host.Outcome State Fault Refusal :=
  .next (s.setFlags (compareFlags s.a data))

/-- RLC (R110): `A <- a[6:0] : a[7]`, CY is the old bit 7. -/
def execRlc (s : State) : Host.Outcome State Fault Refusal :=
  .next (setRotated (s.a.extractLsb' 0 7 ++ s.a.extractLsb' 7 1) (s.a.getLsbD 7) s)

/-- RRC (R111): `A <- a[0] : a[7:1]`, CY is the old bit 0. -/
def execRrc (s : State) : Host.Outcome State Fault Refusal :=
  .next (setRotated (s.a.extractLsb' 0 1 ++ s.a.extractLsb' 1 7) (s.a.getLsbD 0) s)

/-- RAL (R112): `A <- a[6:0] : c`, CY is the old bit 7. -/
def execRal (s : State) : Host.Outcome State Fault Refusal :=
  .next (setRotated (s.a.extractLsb' 0 7 ++ BitVec.ofBool s.flags.cy) (s.a.getLsbD 7) s)

/-- RAR (R113): `A <- c : a[7:1]`, CY is the old bit 0. -/
def execRar (s : State) : Host.Outcome State Fault Refusal :=
  .next (setRotated (BitVec.ofBool s.flags.cy ++ s.a.extractLsb' 1 7) (s.a.getLsbD 0) s)

/-- CMA (R114): A is complemented; no flag is affected. -/
def execCma (s : State) : Host.Outcome State Fault Refusal :=
  .next (s.setA (~~~s.a))

/-- CMC (R115): CY is complemented; no other flag is affected. -/
def execCmc (s : State) : Host.Outcome State Fault Refusal :=
  .next (s.setFlags (s.flags.withCarry (!s.flags.cy)))

/-- STC (R116): CY is set; no other flag is affected. -/
def execStc (s : State) : Host.Outcome State Fault Refusal :=
  .next (s.setFlags (s.flags.withCarry true))

end Sys2Proof.Machine
end

