-- ==== Sys2Proof/Machine/OutOfScope.lean ====
section
/-! DEFINITION. The opcode bytes the spec refuses: the data-transfer, arithmetic, stack and input-output instructions, which
no source describes (30_encoding.md R80; 00_scope.md R4), and the ten undefined bytes (R81). Each answers the refusal of
00_scope.md R10 by its name (log 8). -/

namespace Sys2Proof.Machine

/-- LXI (R80): refused with OutOfScopeOpcode. -/
def execLxi (pair : RegPair) (s : State) : Host.Outcome State Fault Refusal :=
  refuseOutOfScope (.lxi pair) s

/-- STAX (R80): refused with OutOfScopeOpcode. -/
def execStax (pair : RegPair) (s : State) : Host.Outcome State Fault Refusal :=
  refuseOutOfScope (.stax pair) s

/-- INX (R80): refused with OutOfScopeOpcode. -/
def execInx (pair : RegPair) (s : State) : Host.Outcome State Fault Refusal :=
  refuseOutOfScope (.inx pair) s

/-- INR (R80): refused with OutOfScopeOpcode. -/
def execInr (x : Operand) (s : State) : Host.Outcome State Fault Refusal :=
  refuseOutOfScope (.inr x) s

/-- DCR (R80): refused with OutOfScopeOpcode. -/
def execDcr (x : Operand) (s : State) : Host.Outcome State Fault Refusal :=
  refuseOutOfScope (.dcr x) s

/-- MVI (R80): refused with OutOfScopeOpcode. -/
def execMvi (x : Operand) (s : State) : Host.Outcome State Fault Refusal :=
  refuseOutOfScope (.mvi x) s

/-- DAD (R80): refused with OutOfScopeOpcode. -/
def execDad (pair : RegPair) (s : State) : Host.Outcome State Fault Refusal :=
  refuseOutOfScope (.dad pair) s

/-- LDAX (R80): refused with OutOfScopeOpcode. -/
def execLdax (pair : RegPair) (s : State) : Host.Outcome State Fault Refusal :=
  refuseOutOfScope (.ldax pair) s

/-- DCX (R80): refused with OutOfScopeOpcode. -/
def execDcx (pair : RegPair) (s : State) : Host.Outcome State Fault Refusal :=
  refuseOutOfScope (.dcx pair) s

/-- SHLD (R80): refused with OutOfScopeOpcode. -/
def execShld (s : State) : Host.Outcome State Fault Refusal :=
  refuseOutOfScope .shld s

/-- DAA (R80): refused with OutOfScopeOpcode. -/
def execDaa (s : State) : Host.Outcome State Fault Refusal :=
  refuseOutOfScope .daa s

/-- LHLD (R80): refused with OutOfScopeOpcode. -/
def execLhld (s : State) : Host.Outcome State Fault Refusal :=
  refuseOutOfScope .lhld s

/-- STA (R80): refused with OutOfScopeOpcode. -/
def execSta (s : State) : Host.Outcome State Fault Refusal :=
  refuseOutOfScope .sta s

/-- LDA (R80): refused with OutOfScopeOpcode. -/
def execLda (s : State) : Host.Outcome State Fault Refusal :=
  refuseOutOfScope .lda s

/-- MOV (R80): refused with OutOfScopeOpcode. -/
def execMov (dst : Operand) (src : Operand) (s : State) : Host.Outcome State Fault Refusal :=
  refuseOutOfScope (.mov dst src) s

/-- ADD (R80): refused with OutOfScopeOpcode. -/
def execAdd (x : Operand) (s : State) : Host.Outcome State Fault Refusal :=
  refuseOutOfScope (.add x) s

/-- ADC (R80): refused with OutOfScopeOpcode. -/
def execAdc (x : Operand) (s : State) : Host.Outcome State Fault Refusal :=
  refuseOutOfScope (.adc x) s

/-- SUB (R80): refused with OutOfScopeOpcode. -/
def execSub (x : Operand) (s : State) : Host.Outcome State Fault Refusal :=
  refuseOutOfScope (.sub x) s

/-- SBB (R80): refused with OutOfScopeOpcode. -/
def execSbb (x : Operand) (s : State) : Host.Outcome State Fault Refusal :=
  refuseOutOfScope (.sbb x) s

/-- POP (R80): refused with OutOfScopeOpcode. -/
def execPop (pair : StackPair) (s : State) : Host.Outcome State Fault Refusal :=
  refuseOutOfScope (.pop pair) s

/-- PUSH (R80): refused with OutOfScopeOpcode. -/
def execPush (pair : StackPair) (s : State) : Host.Outcome State Fault Refusal :=
  refuseOutOfScope (.push pair) s

/-- ADI (R80): refused with OutOfScopeOpcode. -/
def execAdi (s : State) : Host.Outcome State Fault Refusal :=
  refuseOutOfScope .adi s

/-- ACI (R80): refused with OutOfScopeOpcode. -/
def execAci (s : State) : Host.Outcome State Fault Refusal :=
  refuseOutOfScope .aci s

/-- OUT (R80): refused with OutOfScopeOpcode. -/
def execOutp (s : State) : Host.Outcome State Fault Refusal :=
  refuseOutOfScope .outp s

/-- SUI (R80): refused with OutOfScopeOpcode. -/
def execSui (s : State) : Host.Outcome State Fault Refusal :=
  refuseOutOfScope .sui s

/-- IN (R80): refused with OutOfScopeOpcode. -/
def execInp (s : State) : Host.Outcome State Fault Refusal :=
  refuseOutOfScope .inp s

/-- SBI (R80): refused with OutOfScopeOpcode. -/
def execSbi (s : State) : Host.Outcome State Fault Refusal :=
  refuseOutOfScope .sbi s

/-- XTHL (R80): refused with OutOfScopeOpcode. -/
def execXthl (s : State) : Host.Outcome State Fault Refusal :=
  refuseOutOfScope .xthl s

/-- XCHG (R80): refused with OutOfScopeOpcode. -/
def execXchg (s : State) : Host.Outcome State Fault Refusal :=
  refuseOutOfScope .xchg s

/-- SPHL (R80): refused with OutOfScopeOpcode. -/
def execSphl (s : State) : Host.Outcome State Fault Refusal :=
  refuseOutOfScope .sphl s

/-- (undefined) (R81): refused with UndefinedOpcode, at the address of its one byte. -/
def execUndefined (op : Byte) (s : State) : Host.Outcome State Fault Refusal :=
  .refused (.undefinedOpcode (s.pc - 1) op)

end Sys2Proof.Machine
end

