-- ==== Sys2Proof/Machine/Dispatch.lean ====
section
/-! DEFINITION. One arm for each constructor of Instr: a direct call of its meaning. -/

namespace Sys2Proof.Machine

def exec (i : Instr) (s : State) : Host.Outcome State Fault Refusal :=
  match i with
  | .ana x => Sys2Proof.Machine.execAna x s
  | .xra x => Sys2Proof.Machine.execXra x s
  | .ora x => Sys2Proof.Machine.execOra x s
  | .cmp x => Sys2Proof.Machine.execCmp x s
  | .ani data => Sys2Proof.Machine.execAni data s
  | .xri data => Sys2Proof.Machine.execXri data s
  | .ori data => Sys2Proof.Machine.execOri data s
  | .cpi data => Sys2Proof.Machine.execCpi data s
  | .rlc => Sys2Proof.Machine.execRlc s
  | .rrc => Sys2Proof.Machine.execRrc s
  | .ral => Sys2Proof.Machine.execRal s
  | .rar => Sys2Proof.Machine.execRar s
  | .cma => Sys2Proof.Machine.execCma s
  | .cmc => Sys2Proof.Machine.execCmc s
  | .stc => Sys2Proof.Machine.execStc s
  | .nop => Sys2Proof.Machine.execNop s
  | .hlt => Sys2Proof.Machine.execHlt s
  | .di => Sys2Proof.Machine.execDi s
  | .ei => Sys2Proof.Machine.execEi s
  | .rim => Sys2Proof.Machine.execRim s
  | .sim => Sys2Proof.Machine.execSim s
  | .jmp addr => Sys2Proof.Machine.execJmp addr s
  | .jnz addr => Sys2Proof.Machine.execJnz addr s
  | .jz addr => Sys2Proof.Machine.execJz addr s
  | .jnc addr => Sys2Proof.Machine.execJnc addr s
  | .jc addr => Sys2Proof.Machine.execJc addr s
  | .jpo addr => Sys2Proof.Machine.execJpo addr s
  | .jpe addr => Sys2Proof.Machine.execJpe addr s
  | .jp addr => Sys2Proof.Machine.execJp addr s
  | .jm addr => Sys2Proof.Machine.execJm addr s
  | .call addr => Sys2Proof.Machine.execCall addr s
  | .cnz addr => Sys2Proof.Machine.execCnz addr s
  | .cz addr => Sys2Proof.Machine.execCz addr s
  | .cnc addr => Sys2Proof.Machine.execCnc addr s
  | .cc addr => Sys2Proof.Machine.execCc addr s
  | .cpo addr => Sys2Proof.Machine.execCpo addr s
  | .cpe addr => Sys2Proof.Machine.execCpe addr s
  | .cp addr => Sys2Proof.Machine.execCp addr s
  | .cm addr => Sys2Proof.Machine.execCm addr s
  | .ret => Sys2Proof.Machine.execRet s
  | .rnz => Sys2Proof.Machine.execRnz s
  | .rz => Sys2Proof.Machine.execRz s
  | .rnc => Sys2Proof.Machine.execRnc s
  | .rc => Sys2Proof.Machine.execRc s
  | .rpo => Sys2Proof.Machine.execRpo s
  | .rpe => Sys2Proof.Machine.execRpe s
  | .rp => Sys2Proof.Machine.execRp s
  | .rm => Sys2Proof.Machine.execRm s
  | .pchl => Sys2Proof.Machine.execPchl s
  | .rst n => Sys2Proof.Machine.execRst n s
  | .lxi pair => Sys2Proof.Machine.execLxi pair s
  | .stax pair => Sys2Proof.Machine.execStax pair s
  | .inx pair => Sys2Proof.Machine.execInx pair s
  | .inr x => Sys2Proof.Machine.execInr x s
  | .dcr x => Sys2Proof.Machine.execDcr x s
  | .mvi x => Sys2Proof.Machine.execMvi x s
  | .dad pair => Sys2Proof.Machine.execDad pair s
  | .ldax pair => Sys2Proof.Machine.execLdax pair s
  | .dcx pair => Sys2Proof.Machine.execDcx pair s
  | .shld => Sys2Proof.Machine.execShld s
  | .daa => Sys2Proof.Machine.execDaa s
  | .lhld => Sys2Proof.Machine.execLhld s
  | .sta => Sys2Proof.Machine.execSta s
  | .lda => Sys2Proof.Machine.execLda s
  | .mov dst src => Sys2Proof.Machine.execMov dst src s
  | .add x => Sys2Proof.Machine.execAdd x s
  | .adc x => Sys2Proof.Machine.execAdc x s
  | .sub x => Sys2Proof.Machine.execSub x s
  | .sbb x => Sys2Proof.Machine.execSbb x s
  | .pop pair => Sys2Proof.Machine.execPop pair s
  | .push pair => Sys2Proof.Machine.execPush pair s
  | .adi => Sys2Proof.Machine.execAdi s
  | .aci => Sys2Proof.Machine.execAci s
  | .outp => Sys2Proof.Machine.execOutp s
  | .sui => Sys2Proof.Machine.execSui s
  | .inp => Sys2Proof.Machine.execInp s
  | .sbi => Sys2Proof.Machine.execSbi s
  | .xthl => Sys2Proof.Machine.execXthl s
  | .xchg => Sys2Proof.Machine.execXchg s
  | .sphl => Sys2Proof.Machine.execSphl s
  | .undefined op => Sys2Proof.Machine.execUndefined op s

end Sys2Proof.Machine
end

