-- ==== Sys2Proof/Machine/Boundary.lean ====
section
/-! DEFINITION. What happens between two instructions and in one: the step of 00_scope.md R9. -/

namespace Sys2Proof.Machine

/-- Fetch at PC, move PC past the instruction, execute (R9). -/
def executeNext (s : State) : Host.Outcome State Fault Refusal :=
  match fetch s with
  | .error r => .refused r
  | .ok (i, len) => exec i (s.advance len)

/-- What follows when no reset is applied: take the first source that can be taken, else stay halted, else execute one
instruction. EIHOLD is read and cleared first (R9, 60_exceptions.md R207). -/
def runBoundary (s : State) : Host.Outcome State Fault Refusal :=
  match firstSource s.eihold (s.setEihold false) with
  | some src => settle (interruptEntry src (s.setEihold false))
  | none => if s.halted then .next (s.setEihold false) else executeNext (s.setEihold false)

/-- The outcome of a step stands at the next boundary. -/
def afterBoundary : Host.Outcome State Fault Refusal → Host.Outcome State Fault Refusal
  | .next t => .next t.passSample
  | .fault f => .fault f
  | .refused r => .refused r

/-- One step (R9): absorb the events, then reset, or go on. -/
def stepAtBoundary (s : State) : Host.Outcome State Fault Refusal :=
  afterBoundary (if s.env.reset then .next (resetSequence (absorb s)) else runBoundary (absorb s))

/-- The memory with the three bytes of an instruction word stored at an address and the two after it, first byte lowest. -/
def Memory.storeWord (m : Memory) (a : Addr) (w : Nat) : Memory :=
  let m1 := Memory.write m a.toNat (BitVec.ofNat 8 w)
  let m2 := Memory.write m1 (a + 1).toNat (BitVec.ofNat 8 (w / 256))
  Memory.write m2 (a + 2).toNat (BitVec.ofNat 8 (w / 65536))

end Sys2Proof.Machine
end

