-- ==== Sys2Proof/Machine/Step.lean ====
section
/-! DEFINITION. The step, and the instruction word the host places for it. -/

namespace Sys2Proof.Machine

/-- One step of the CPU (00_scope.md R9). -/
def step (s : State) : Host.Outcome State Fault Refusal := stepAtBoundary s

/-- The state with an instruction of `nbits` bits stored at PC, the bytes above it zero (log 7): the load of a program from
outside the machine. A state that is about to fetch (State.reset is one) runs exactly it at its next step. -/
def State.withFetchWord (s : State) (nbits w : Nat) : State :=
  s.setMem (Memory.storeWord s.mem s.pc (w % 2 ^ nbits))

end Sys2Proof.Machine
end

