-- ==== Sys2Proof/Safety.lean ====
section
/-! DEFINITION. The terms claims use: what a good state is, when a step and a run are safe, when a run has ended, and the
reference functions a statement compares the machine with. -/

namespace Sys2Proof.Machine

/-! ## Good states and safe runs -/

/-- The invariant of the machine: memory is in its canonical form; EIHOLD is set only behind an EI, so with IE set, not
halted, and only where `EI_DELAY` is 1 (10_state.md R40). -/
abbrev State.Inv (s : State) : Prop :=
  Memory.wf s.mem = true ∧
    (s.eihold = true → s.ie = true ∧ s.halted = false ∧ s.cfg.eiDelay = true)

/-- There is memory at the address: an access is not refused (20_memory.md R66). -/
abbrev State.present (s : State) (a : Addr) : Prop := s.kindAt a ≠ .absent

/-- A step that is not refused (00_scope.md R10). -/
def State.stepsOn (s : State) : Prop := ∃ t, step s = .next t

/-- `k` steps of the machine, none of them refused. -/
def State.runsFor (s : State) (k : Nat) : Prop := ∃ t, Sys2Proof.core.run k s = .next t

/-- A sample of `Env` that brings neither a reset nor an interrupt this state could take (R204). -/
def State.idleSample (s : State) (e : Env) : Bool :=
  !e.reset && !e.trapEvent &&
    !(s.ie && ((e.rst75Edge && !s.m75) || (e.rst65 && !s.m65) || (e.rst55 && !s.m55) || e.intr))

/-- The run has ended (70_reset_and_hazards.md R250): halted, nothing pending that can be taken, and at no boundary from
this one on does `Env` bring a reset or an interrupt that can be taken. -/
def State.ended (s : State) : Prop :=
  s.halted = true ∧ s.eihold = false ∧ s.trapl = false ∧ (s.ie && s.i75 && !s.m75) = false ∧
    ∀ k, s.idleSample (s.sample (s.boundary + k)) = true

/-! ## Reference functions -/

/-- The number of 1 bits of a byte is even. -/
def evenOnes (v : Byte) : Bool := ((List.range 8).countP fun i => v.getLsbD i) % 2 == 0

/-- The flags a logical result leaves (40_logical.md R100, R104 to R109), by numbers: minus is 80H and above. -/
def flagsOfResult (r : Byte) (ac : Bool) : Flags :=
  ⟨decide (128 ≤ r.toNat), decide (r.toNat = 0), ac, evenOnes r, false⟩

/-- The flags a compare leaves (R102), by numbers: `d = (A - v) mod 256`, CY on a borrow, AC the carry out of bit 3 of
`A + (~v) + 1`. -/
def flagsOfCompare (acc v : Byte) : Flags :=
  let d : Nat := (acc.toNat + 256 - v.toNat) % 256
  ⟨decide (128 ≤ d), decide (acc.toNat = v.toNat), decide (16 ≤ acc.toNat % 16 + (255 - v.toNat) % 16 + 1),
    evenOnes (BitVec.ofNat 8 d), decide (acc.toNat < v.toNat)⟩

/-- The value of a second operand, whatever the kind of its address. -/
def operandValue (x : Operand) (s : State) : Byte :=
  match x with
  | .reg r => s.reg r
  | .mem => s.byteAt s.hl

/-- The operand is a register, or there is memory at `H : L`. -/
abbrev operandPresent (x : Operand) (s : State) : Prop := x = .mem → s.present s.hl

/-- The same instruction `n` times. -/
def execTimes : Nat → Instr → State → Host.Outcome State Fault Refusal
  | 0, _, s => .next s
  | n + 1, i, s =>
    match exec i s with
    | .next t => execTimes n i t
    | .fault f => .fault f
    | .refused r => .refused r

/-- The state as the check for interrupts finds it: events absorbed, EIHOLD cleared (00_scope.md R9). -/
def State.atCheck (s : State) : State := (absorb s).setEihold false

/-- The source this boundary takes, if no reset is applied (R204, R205). -/
def State.taken (s : State) : Option Source := firstSource s.eihold s.atCheck

/-- The boundary goes on to execute an instruction: no reset, no interrupt taken, not halted (R9). -/
abbrev State.executes (s : State) : Prop :=
  s.env.reset = false ∧ s.taken = none ∧ s.halted = false

/-- The state with another AC flag. -/
def State.withAc (s : State) (b : Bool) : State := { s with flags := { s.flags with ac := b } }

/-- What a call does to a state (42_branch.md R161, R151): PC goes to the target, SP down by two, the old PC lies at
`SP - 1` (high-order byte) and `SP - 2` (low-order byte) where these are RAM; nothing else changes. -/
def CallEffect (s : State) (target : Addr) (t : State) : Prop :=
  t = { s with pc := target, sp := s.sp - 2, mem := t.mem } ∧
    t.byteAt (s.sp - 1) = (if s.kindAt (s.sp - 1) = .ram then hiByte s.pc else s.byteAt (s.sp - 1)) ∧
    t.byteAt (s.sp - 2) = (if s.kindAt (s.sp - 2) = .ram then loByte s.pc else s.byteAt (s.sp - 2)) ∧
    ∀ a, a ≠ s.sp - 1 → a ≠ s.sp - 2 → t.byteAt a = s.byteAt a

/-- The 85 opcode bytes of the scope, as the column `byte values` of 30_encoding.md R79 lists them. -/
def scopeBytes : List Byte :=
  [0xA0, 0xA1, 0xA2, 0xA3, 0xA4, 0xA5, 0xA6, 0xA7] ++
  [0xA8, 0xA9, 0xAA, 0xAB, 0xAC, 0xAD, 0xAE, 0xAF] ++
  [0xB0, 0xB1, 0xB2, 0xB3, 0xB4, 0xB5, 0xB6, 0xB7] ++
  [0xB8, 0xB9, 0xBA, 0xBB, 0xBC, 0xBD, 0xBE, 0xBF] ++
  [0xE6, 0xEE, 0xF6, 0xFE] ++
  [0x07, 0x0F, 0x17, 0x1F, 0x2F, 0x37, 0x3F] ++
  [0x00, 0x76, 0xF3, 0xFB, 0x20, 0x30] ++
  [0xC3, 0xC2, 0xCA, 0xD2, 0xDA, 0xE2, 0xEA, 0xF2, 0xFA] ++
  [0xCD, 0xC4, 0xCC, 0xD4, 0xDC, 0xE4, 0xEC, 0xF4, 0xFC] ++
  [0xC9, 0xC0, 0xC8, 0xD0, 0xD8, 0xE0, 0xE8, 0xF0, 0xF8] ++
  [0xE9] ++
  [0xC7, 0xCF, 0xD7, 0xDF, 0xE7, 0xEF, 0xF7, 0xFF]

/-- The conditional jumps with the `Flag Status` column of the source (42_branch.md R150, R153 to R160). -/
def conditionalJumps : List ((Addr → Instr) × (Flags → Bool)) := [
  (fun addr => .jc addr, fun f => f.cy == true),
  (fun addr => .jnc addr, fun f => f.cy == false),
  (fun addr => .jp addr, fun f => f.s == false),
  (fun addr => .jm addr, fun f => f.s == true),
  (fun addr => .jz addr, fun f => f.z == true),
  (fun addr => .jnz addr, fun f => f.z == false),
  (fun addr => .jpe addr, fun f => f.p == true),
  (fun addr => .jpo addr, fun f => f.p == false)]

/-- The conditional calls with the same column (R150, R162 to R169). -/
def conditionalCalls : List ((Addr → Instr) × (Flags → Bool)) := [
  (fun addr => .cc addr, fun f => f.cy == true),
  (fun addr => .cnc addr, fun f => f.cy == false),
  (fun addr => .cp addr, fun f => f.s == false),
  (fun addr => .cm addr, fun f => f.s == true),
  (fun addr => .cz addr, fun f => f.z == true),
  (fun addr => .cnz addr, fun f => f.z == false),
  (fun addr => .cpe addr, fun f => f.p == true),
  (fun addr => .cpo addr, fun f => f.p == false)]

/-- The conditional returns with the same column (R150, R171 to R178). -/
def conditionalReturns : List ((Instr) × (Flags → Bool)) := [
  (.rc, fun f => f.cy == true),
  (.rnc, fun f => f.cy == false),
  (.rp, fun f => f.s == false),
  (.rm, fun f => f.s == true),
  (.rz, fun f => f.z == true),
  (.rnz, fun f => f.z == false),
  (.rpe, fun f => f.p == true),
  (.rpo, fun f => f.p == false)]

/-- The instructions of the scope (00_scope.md R3): their opcode byte is one of R79. -/
def inScope (i : Instr) : Bool := scopeBytes.contains (opcode i)

/-- The branching group (42_branch.md): what may write PC, SP or memory. -/
def isBranch : Instr → Bool
  | .jmp _ | .jnz _ | .jz _ | .jnc _ | .jc _ | .jpo _ | .jpe _ | .jp _ | .jm _ => true
  | .call _ | .cnz _ | .cz _ | .cnc _ | .cc _ | .cpo _ | .cpe _ | .cp _ | .cm _ => true
  | .ret | .rnz | .rz | .rnc | .rc | .rpo | .rpe | .rp | .rm => true
  | .pchl | .rst _ => true
  | _ => false

/-- The instructions that write a flag (10_state.md R29). -/
def writesFlags : Instr → Bool
  | .cmp _ | .cpi _ | .ana _ | .ani _ | .xra _ | .xri _ | .ora _ | .ori _ => true
  | .rlc | .rrc | .ral | .rar | .cmc | .stc => true
  | _ => false

/-- The instructions that write the accumulator (10_state.md R21). -/
def writesA : Instr → Bool
  | .ana _ | .ani _ | .xra _ | .xri _ | .ora _ | .ori _ => true
  | .rlc | .rrc | .ral | .rar | .cma | .rim => true
  | _ => false

/-- Both bytes a push writes have memory. -/
abbrev State.pushable (s : State) : Prop := s.present (s.sp - 1) ∧ s.present (s.sp - 2)

/-- Both bytes a pop reads have memory. -/
abbrev State.poppable (s : State) : Prop := s.present s.sp ∧ s.present (s.sp + 1)

end Sys2Proof.Machine
end

