-- ==== Sys2Proof/Certificates/Slice0/Obligations.lean ====
section
/-! DEFINITION. The statements for the provers. Each docstring says which part of the spec it formalises; a decision D<n> is
the spec's own choice and "log <n>" the entry that says so. -/

open Sys2Proof Sys2Proof.Machine

/-- Decoding an encoded well-formed instruction gives it back, with the bytes after it. For every well-formed
instruction and every list of further bytes, the decoder reads from the instruction's bytes followed by these exactly
that instruction and leaves the further bytes. An instruction outside the scope is encoded by its opcode byte alone
(log 10). The codes are the spec's own decision D1 (log 14). (30_encoding.md section 3; 30_encoding.md section 4;
92_eei_decisions.md D1) -/
def Obligations.DecodeEncodeRoundTrip : Prop :=
  ∀ (i : Instr) (rest : List Byte), i.wf = true → decode (encode i ++ rest) = .ok (i, rest)

/-- What the decoder reads is well-formed and its encoding is the bytes read. Whenever the decoder reads an
instruction from a list of bytes and leaves a rest, the instruction is well-formed and its encoding followed by the
rest is the list: no bit is dropped and no instruction has two encodings. That an instruction outside the scope is
read and encoded as its opcode byte alone is the model's DESIGN CHOICE (log 10). Rests on decision D1 (log 14).
(30_encoding.md section 3; 92_eei_decisions.md D1) -/
def Obligations.EncodeDecodeExact : Prop :=
  ∀ (bs : List Byte) (i : Instr) (rest : List Byte),
    decode bs = .ok (i, rest) → i.wf = true ∧ encode i ++ rest = bs

/-- Words written out from the encoding tables decode to their instructions. The bytes B8H, FEH 89H, 17H, 30H, CAH 34H
20H, CDH 34H 20H, C8H, E9H, EFH decode to CMP B, CPI 89H, RAL, SIM, JZ 2034H, CALL 2034H, RZ, PCHL, RST 5; 41H is MOV
B, C and 08H is undefined. Rests on decision D1 (log 14). (30_encoding.md section 3; 95_test_vectors.md section 1.1)
-/
def Obligations.SampleWordsDecode : Prop :=
  decode [0xB8] = .ok (.cmp (.reg .b), []) ∧ decode [0xFE, 0x89] = .ok (.cpi 0x89, []) ∧
    decode [0x17] = .ok (.ral, []) ∧ decode [0x30] = .ok (.sim, []) ∧
    decode [0xCA, 0x34, 0x20] = .ok (.jz 0x2034, []) ∧ decode [0xCD, 0x34, 0x20] = .ok (.call 0x2034, []) ∧
    decode [0xC8] = .ok (.rz, []) ∧ decode [0xE9] = .ok (.pchl, []) ∧ decode [0xEF] = .ok (.rst 5, []) ∧
    decode [0x41] = .ok (.mov (.reg .b) (.reg .c), []) ∧ decode [0x08] = .ok (.undefined 0x08, [])

/-- Every byte value is classified once: 85 in scope, 161 outside, ten undefined. A byte selects exactly one row of
the table, or none if it is one of the ten undefined bytes; the rows in scope are selected by exactly the 85 byte
values of the scope, which have no repeats. Rests on decisions D1, D3, D4 (log 8, log 14). (30_encoding.md section 3;
92_eei_decisions.md D3; 92_eei_decisions.md D4) -/
def Obligations.OpcodeBytesClassified : Prop :=
  (∀ b : Byte, (opcodeRows.filter fun r => r.selects b).length = if undefinedBytes.contains b then 0 else 1) ∧
    (∀ b : Byte, ((rowOf b).map (·.scope) = some Scope.inScope) ↔ scopeBytes.contains b = true) ∧
    scopeBytes.length = 85 ∧ scopeBytes.Nodup ∧ undefinedBytes.length = 10 ∧ undefinedBytes.Nodup

/-- A step runs the instruction whose bytes lie at PC. If no reset is applied, no interrupt is taken and the machine
is not halted, and the bytes of a well-formed instruction lie at PC where there is memory, the step is exec of that
instruction on the state with events absorbed, EIHOLD cleared and PC moved past the instruction; a next state then
stands at the next boundary of Env. (00_scope.md section 5; 30_encoding.md section 5) -/
def Obligations.StepRunsDecodedInstruction : Prop :=
  ∀ (i : Instr) (s : State), i.wf = true → s.executes →
    (∀ k, k < (encode i).length →
      s.present (s.pc + BitVec.ofNat 16 k) ∧ (encode i)[k]? = some (s.byteAt (s.pc + BitVec.ofNat 16 k))) →
    step s = afterBoundary (exec i (s.atCheck.advance (encode i).length))

/-- ANA and ANI: result, all five flags, and nothing else changed. For every state, ANA with a register or with M
(where there is memory at H:L) and ANI with any data complete: A takes the AND, S is 1 from 80H up, Z for zero, P for
an even number of 1 bits, CY is 0, AC is 1; every other register, cell and byte of memory is unchanged. The meaning of
S, Z, P is the spec's own decision D29 (log 16). (40_logical.md section 1; 40_logical.md section 3;
92_eei_decisions.md D29) -/
def Obligations.AndInstructions : Prop :=
  ∀ s : State,
    (∀ x : Operand, operandPresent x s →
      exec (.ana x) s = .next { s with
        a := s.a &&& operandValue x s, flags := flagsOfResult (s.a &&& operandValue x s) true }) ∧
    ∀ data : Byte,
      exec (.ani data) s = .next { s with a := s.a &&& data, flags := flagsOfResult (s.a &&& data) true }

/-- XRA and XRI: result, all five flags, and nothing else changed. For every state, XRA with a register or with M
(where there is memory at H:L) and XRI with any data complete: A takes the exclusive OR, S is 1 from 80H up, Z for
zero, P for an even number of 1 bits, CY is 0, AC is 0; every other register, cell and byte of memory is unchanged.
The meaning of S, Z, P is the spec's own decision D29 (log 16). (40_logical.md section 1; 40_logical.md section 3;
92_eei_decisions.md D29) -/
def Obligations.ExclusiveOrInstructions : Prop :=
  ∀ s : State,
    (∀ x : Operand, operandPresent x s →
      exec (.xra x) s = .next { s with
        a := s.a ^^^ operandValue x s, flags := flagsOfResult (s.a ^^^ operandValue x s) false }) ∧
    ∀ data : Byte,
      exec (.xri data) s = .next { s with a := s.a ^^^ data, flags := flagsOfResult (s.a ^^^ data) false }

/-- ORA and ORI: result, all five flags, and nothing else changed. For every state, ORA with a register or with M
(where there is memory at H:L) and ORI with any data complete: A takes the OR, S is 1 from 80H up, Z for zero, P for
an even number of 1 bits, CY is 0, AC is 0; every other register, cell and byte of memory is unchanged. The meaning of
S, Z, P is the spec's own decision D29 (log 16). (40_logical.md section 1; 40_logical.md section 3;
92_eei_decisions.md D29) -/
def Obligations.OrInstructions : Prop :=
  ∀ s : State,
    (∀ x : Operand, operandPresent x s →
      exec (.ora x) s = .next { s with
        a := s.a ||| operandValue x s, flags := flagsOfResult (s.a ||| operandValue x s) false }) ∧
    ∀ data : Byte,
      exec (.ori data) s = .next { s with a := s.a ||| data, flags := flagsOfResult (s.a ||| data) false }

/-- CMP and CPI: the flags of the comparison, A and the operand preserved. For every state, CMP with a register or
with M (where there is memory at H:L) and CPI with any data complete and change the flags alone: CY exactly when A is
below the operand, Z exactly when they are equal, S and P from the difference modulo 256, AC the carry out of bit 3 of
A plus the complement plus 1. Z, CY in the cases the source leaves out, and S, P, AC, are the spec's own decision D5
(log 15), the address of CMP M decision D6. (40_logical.md section 2; 92_eei_decisions.md D5; 92_eei_decisions.md D6)
-/
def Obligations.CompareInstructions : Prop :=
  ∀ s : State,
    (∀ x : Operand, operandPresent x s →
      exec (.cmp x) s = .next { s with flags := flagsOfCompare s.a (operandValue x s) }) ∧
    ∀ data : Byte, exec (.cpi data) s = .next { s with flags := flagsOfCompare s.a data }

/-- CMP M, ANA M, XRA M, ORA M are refused where nothing lies at H:L. Where MemMap says the address H:L holds nothing,
each of the four instructions with the operand M is refused with AbsentMemory of that address. Rests on decision D10
(log 24). (20_memory.md section 9; 92_eei_decisions.md D10) -/
def Obligations.AbsentOperandRefused : Prop :=
  ∀ s : State, s.kindAt s.hl = .absent →
    exec (.cmp .mem) s = .refused (.absentMemory s.hl) ∧ exec (.ana .mem) s = .refused (.absentMemory s.hl) ∧
      exec (.xra .mem) s = .refused (.absentMemory s.hl) ∧ exec (.ora .mem) s = .refused (.absentMemory s.hl)

/-- RLC, RRC, RAL, RAR bit by bit; S, Z, P, AC and everything else not affected. For every state each rotate
completes, changes A and CY alone, and moves every bit by one position: RLC puts bit 7 into bit 0 and CY, RRC bit 0
into bit 7 and CY, RAL bit 7 into CY and the old CY into bit 0, RAR bit 0 into CY and the old CY into bit 7. (R110;
R111; R112; R113) -/
def Obligations.RotateInstructions : Prop :=
  ∀ s : State,
    (∃ t, exec .rlc s = .next t ∧ t = { s with a := t.a, flags := { s.flags with cy := t.flags.cy } } ∧
      (∀ i, i < 7 → t.a.getLsbD (i + 1) = s.a.getLsbD i) ∧ t.a.getLsbD 0 = s.a.getLsbD 7 ∧
      t.flags.cy = s.a.getLsbD 7) ∧
    (∃ t, exec .rrc s = .next t ∧ t = { s with a := t.a, flags := { s.flags with cy := t.flags.cy } } ∧
      (∀ i, i < 7 → t.a.getLsbD i = s.a.getLsbD (i + 1)) ∧ t.a.getLsbD 7 = s.a.getLsbD 0 ∧
      t.flags.cy = s.a.getLsbD 0) ∧
    (∃ t, exec .ral s = .next t ∧ t = { s with a := t.a, flags := { s.flags with cy := t.flags.cy } } ∧
      (∀ i, i < 7 → t.a.getLsbD (i + 1) = s.a.getLsbD i) ∧ t.a.getLsbD 0 = s.flags.cy ∧
      t.flags.cy = s.a.getLsbD 7) ∧
    ∃ t, exec .rar s = .next t ∧ t = { s with a := t.a, flags := { s.flags with cy := t.flags.cy } } ∧
      (∀ i, i < 7 → t.a.getLsbD i = s.a.getLsbD (i + 1)) ∧ t.a.getLsbD 7 = s.flags.cy ∧
      t.flags.cy = s.a.getLsbD 0

/-- CMA inverts every bit of A; CMC and STC write CY alone. For every state CMA completes with every bit of A inverted
and nothing else changed, CMC with CY complemented and nothing else changed, STC with CY set and nothing else changed.
(R114; R115; R116) -/
def Obligations.ComplementAndCarryInstructions : Prop :=
  ∀ s : State,
    (∃ t, exec .cma s = .next t ∧ t = { s with a := t.a } ∧ ∀ i, i < 8 → t.a.getLsbD i = !s.a.getLsbD i) ∧
    exec .cmc s = .next { s with flags := { s.flags with cy := !s.flags.cy } } ∧
    exec .stc s = .next { s with flags := { s.flags with cy := true } }

/-- RLC and RRC, RAL and RAR undo each other as the identities of the logical group say. RLC then RRC restores the
state with CY the original bit 7 of A, RRC then RLC with CY the original bit 0, RAL then RAR and RAR then RAL restore
it whole. (40_logical.md section 6) -/
def Obligations.RotatesUndoEachOther : Prop :=
  ∀ s t : State,
    (exec .rlc s = .next t → exec .rrc t = .next { s with flags := { s.flags with cy := s.a.getLsbD 7 } }) ∧
    (exec .rrc s = .next t → exec .rlc t = .next { s with flags := { s.flags with cy := s.a.getLsbD 0 } }) ∧
    (exec .ral s = .next t → exec .rar t = .next s) ∧ (exec .rar s = .next t → exec .ral t = .next s)

/-- Eight RLC or RRC restore A, nine RAL or RAR restore A and CY. For every state, eight RLC in a row leave A as it
was with CY its bit 0, eight RRC leave A as it was with CY its bit 7, nine RAL or nine RAR leave the whole state as it
was. (40_logical.md section 4; 95_test_vectors.md section 2.3) -/
def Obligations.RotateOrders : Prop :=
  ∀ s : State,
    execTimes 8 .rlc s = .next { s with flags := { s.flags with cy := s.a.getLsbD 0 } } ∧
    execTimes 8 .rrc s = .next { s with flags := { s.flags with cy := s.a.getLsbD 7 } } ∧
    execTimes 9 .ral s = .next s ∧ execTimes 9 .rar s = .next s

/-- NOP changes nothing; HLT sets HALTED and nothing else. For every state NOP completes with the state unchanged (PC
has already advanced), and HLT completes with HALTED set and nothing else changed, PC at the byte after it. That
neither writes a flag is the spec's own decision D20, the PC of the halt decision D17 (log 16, log 21).
(41_control.md; 92_eei_decisions.md D17; 92_eei_decisions.md D20) -/
def Obligations.NopAndHalt : Prop :=
  ∀ s : State, exec .nop s = .next s ∧ exec .hlt s = .next { s with halted := true }

/-- DI resets IE and EIHOLD and nothing else, and only TRAP can be taken after it. For every state DI completes with
IE and EIHOLD reset and everything else unchanged, the masks, the RST 7.5 flip-flop and the flags among them. In the
state it leaves, whatever environment follows and whatever the delay, only TRAP can be taken, and TRAP exactly when
its request is latched or arrives. That IE is reset and all but TRAP disabled is rule R132; the EIHOLD clause is the
spec's own decision D15 (log 20), and when TRAP can be taken rests on decision D22 with rules R203 and R204 (log 19).
(41_control.md; 60_exceptions.md section 2; 60_exceptions.md section 3; 92_eei_decisions.md D15; 92_eei_decisions.md
D22) -/
def Obligations.DisableInterrupts : Prop :=
  ∀ s : State, ∃ t, exec .di s = .next t ∧ t = { s with ie := false, eihold := false } ∧
    ∀ (o : EnvOracle) (n : Nat) (hold : Bool),
      (∀ src, canTake hold (absorb { t with oracle := o, boundary := n }) src = true → src = .trap) ∧
      (canTake hold (absorb { t with oracle := o, boundary := n }) .trap =
        (s.trapl || (State.env { t with oracle := o, boundary := n }).trapEvent))

/-- EI sets IE, and EIHOLD where EI_DELAY is 1, and nothing else. For every state EI completes with IE set, EIHOLD
equal to EI_DELAY, and everything else unchanged: masks, RST 7.5 flip-flop, flags. The delay is the spec's own
decision D15 (log 20). (41_control.md; 92_eei_decisions.md D15) -/
def Obligations.EnableInterrupts : Prop :=
  ∀ s : State, exec .ei s = .next { s with ie := true, eihold := s.cfg.eiDelay }

/-- RIM loads SID, the three requests, IE and the masks into A and changes nothing else. For every state RIM
completes, changes A alone, and its bits 7 to 0 are SID, the RST 7.5 flip-flop, the levels of RST 6.5 and RST 5.5, IE,
M7.5, M6.5, M5.5. The bit layout is the spec's own decision D18 (log 17); that the levels are those of this boundary's
sample is DEDUCED (log 3). (41_control.md; 92_eei_decisions.md D18) -/
def Obligations.RimLoadsStatus : Prop :=
  ∀ s : State, ∃ t, exec .rim s = .next t ∧ t = { s with a := t.a } ∧
    t.a.getLsbD 7 = s.env.sid ∧ t.a.getLsbD 6 = s.i75 ∧ t.a.getLsbD 5 = s.env.rst65 ∧ t.a.getLsbD 4 = s.env.rst55 ∧
    t.a.getLsbD 3 = s.ie ∧ t.a.getLsbD 2 = s.m75 ∧ t.a.getLsbD 1 = s.m65 ∧ t.a.getLsbD 0 = s.m55

/-- SIM writes masks, RST 7.5 flip-flop and SOD as the command byte says, nothing else. For every state SIM completes:
with D3 = 1 the masks take D2, D1, D0, with D4 = 1 the RST 7.5 flip-flop is reset, with D6 = 1 SOD takes D7, each
independently of the others; everything else, A and the flags and IE among them, is unchanged. The positions of D5,
D4, D3 are the spec's own decision D19, the flags decision D20 (log 17, log 16). (41_control.md; 92_eei_decisions.md
D19; 92_eei_decisions.md D20) -/
def Obligations.SimObeysCommandByte : Prop :=
  ∀ s : State, exec .sim s = .next { s with
    m75 := if s.a.getLsbD 3 then s.a.getLsbD 2 else s.m75
    m65 := if s.a.getLsbD 3 then s.a.getLsbD 1 else s.m65
    m55 := if s.a.getLsbD 3 then s.a.getLsbD 0 else s.m55
    i75 := if s.a.getLsbD 4 then false else s.i75
    sod := if s.a.getLsbD 6 then s.a.getLsbD 7 else s.sod }

/-- Bit D5 of the SIM command byte does not matter. For every state, SIM with bit D5 of A inverted does what SIM does,
with that bit of A inverted before and after. The position of XXX is decision D19 (log 17). (41_control.md;
93_implementation_defined.md U1) -/
def Obligations.SimIgnoresDontCareBit : Prop :=
  ∀ s t : State, exec .sim s = .next t →
    exec .sim { s with a := s.a ^^^ 0x20 } = .next { t with a := s.a ^^^ 0x20 }

/-- SOD takes D7 when D6 = 1, by SIM alone, and no instruction reads it. SIM latches bit D7 of A into SOD exactly if
bit D6 is 1; any other instruction that goes on leaves SOD as it was; and no instruction reads SOD: with another value
in the latch every instruction goes on to the same state but for SOD, or is refused the same way. (R37) -/
def Obligations.SodWrittenBySimReadByNone : Prop :=
  (∀ s : State, ∃ t, exec .sim s = .next t ∧ t.sod = if s.a.getLsbD 6 then s.a.getLsbD 7 else s.sod) ∧
    (∀ (i : Instr) (s t : State), exec i s = .next t → i ≠ .sim → t.sod = s.sod) ∧
    ∀ (i : Instr) (s : State) (b : Bool),
      (∀ t, exec i s = .next t →
        ∃ u, exec i { s with sod := b } = .next u ∧ { u with sod := false } = { t with sod := false }) ∧
      ∀ r, exec i s = .refused r → exec i { s with sod := b } = .refused r

/-- JMP and the eight conditional jumps set PC to the operand or leave it. For every state and every 16-bit address,
JMP completes with PC the address; each conditional jump completes with PC the address if its flag has the value of
its row and PC as advanced if not; nothing else changes. That no flag changes is the spec's own decision D20 (log 16).
(42_branch.md section 2; 92_eei_decisions.md D20) -/
def Obligations.JumpInstructions : Prop :=
  ∀ (s : State) (addr : Addr), exec (.jmp addr) s = .next { s with pc := addr } ∧
    ∀ p ∈ conditionalJumps, exec (p.1 addr) s = .next { s with pc := if p.2 s.flags then addr else s.pc }

/-- PCHL puts H into the high-order and L into the low-order byte of PC. For every state PCHL completes with PC = 256
* H + L and nothing else changed. That no flag changes is the spec's own decision D20 (log 16). (42_branch.md section
5; 92_eei_decisions.md D20) -/
def Obligations.PchlInstruction : Prop :=
  ∀ s : State, ∃ t, exec .pchl s = .next t ∧ t = { s with pc := t.pc } ∧ t.pc.toNat = 256 * s.h.toNat + s.l.toNat

/-- CALL pushes the return address and goes to the operand; no other byte changes. In every state with canonical
memory and memory at SP-1 and SP-2, CALL completes: PC is the operand, SP is lower by 2, the byte at SP-1 is the high-
order and the byte at SP-2 the low-order byte of the old PC where they are RAM and as before where they are ROM, every
other byte of memory and everything else is unchanged. The stack discipline is the spec's own decision D7, ROM
decision D10 (log 13, log 24). (42_branch.md section 3; 92_eei_decisions.md D7; 92_eei_decisions.md D10) -/
def Obligations.CallInstruction : Prop :=
  ∀ (s : State) (addr : Addr), Memory.wf s.mem = true → s.pushable →
    ∃ t, exec (.call addr) s = .next t ∧ CallEffect s addr t

/-- The eight conditional calls: a call where the flag agrees, nothing where it does not. For each conditional call,
address and state: if its flag does not have the value of its row, it completes with the state unchanged, whatever
lies at the stack; if it has, memory is canonical and there is memory at SP-1 and SP-2, it completes as CALL does.
Rests on decisions D7, D10, D20 (log 13, log 24, log 16). (42_branch.md section 3; 92_eei_decisions.md D7;
92_eei_decisions.md D20) -/
def Obligations.ConditionalCallInstructions : Prop :=
  ∀ (s : State) (addr : Addr), ∀ p ∈ conditionalCalls,
    (p.2 s.flags = false → exec (p.1 addr) s = .next s) ∧
    (p.2 s.flags = true → Memory.wf s.mem = true → s.pushable →
      ∃ t, exec (p.1 addr) s = .next t ∧ CallEffect s addr t)

/-- RST n pushes PC and goes to 8 * n. In every state with canonical memory and memory at SP-1 and SP-2, RST n
completes for each n from 0 to 7 as a call to the address 8 * n; IE and everything else is unchanged. Rests on
decisions D7, D10 (log 13, log 24). (42_branch.md section 5; 92_eei_decisions.md D7) -/
def Obligations.RestartInstruction : Prop :=
  ∀ (s : State) (n : BitVec 3), Memory.wf s.mem = true → s.pushable →
    ∃ t, exec (.rst n) s = .next t ∧ CallEffect s (BitVec.ofNat 16 (8 * n.toNat)) t

/-- RET and the conditional returns taken pop PC; not taken, nothing happens. In every state with memory at SP and
SP+1, RET and each conditional return whose flag agrees complete with PC = 256 * the byte at SP+1 + the byte at SP, SP
higher by 2 and nothing else changed, memory and IE among it; a conditional return whose flag does not agree completes
with the state unchanged, whatever lies at the stack. Rests on decisions D7, D20 (log 13, log 16). (42_branch.md
section 4; 92_eei_decisions.md D7; 92_eei_decisions.md D20) -/
def Obligations.ReturnInstructions : Prop :=
  ∀ s : State,
    (s.poppable → ∃ t, exec .ret s = .next t ∧ t = { s with pc := t.pc, sp := s.sp + 2 } ∧
      t.pc.toNat = 256 * (s.byteAt (s.sp + 1)).toNat + (s.byteAt s.sp).toNat) ∧
    ∀ p ∈ conditionalReturns,
      (p.2 s.flags = false → exec p.1 s = .next s) ∧
      (p.2 s.flags = true → s.poppable → ∃ t, exec p.1 s = .next t ∧ t = { s with pc := t.pc, sp := s.sp + 2 } ∧
        t.pc.toNat = 256 * (s.byteAt (s.sp + 1)).toNat + (s.byteAt s.sp).toNat)

/-- A push or pop with no memory at a stack byte is refused with the first such address. CALL, RST n and every
conditional call taken are refused with AbsentMemory(SP-1) where nothing lies there, and with AbsentMemory(SP-2) where
something lies at SP-1 and nothing at SP-2; RET and every conditional return taken likewise with SP and SP+1. Rests on
decision D10 (log 24). (20_memory.md section 9; 20_memory.md section 4; 92_eei_decisions.md D10) -/
def Obligations.AbsentStackRefused : Prop :=
  ∀ (s : State) (addr : Addr) (n : BitVec 3),
    (s.kindAt (s.sp - 1) = .absent →
      exec (.call addr) s = .refused (.absentMemory (s.sp - 1)) ∧
      exec (.rst n) s = .refused (.absentMemory (s.sp - 1)) ∧
      ∀ p ∈ conditionalCalls, p.2 s.flags = true → exec (p.1 addr) s = .refused (.absentMemory (s.sp - 1))) ∧
    (s.present (s.sp - 1) → s.kindAt (s.sp - 2) = .absent →
      exec (.call addr) s = .refused (.absentMemory (s.sp - 2)) ∧
      exec (.rst n) s = .refused (.absentMemory (s.sp - 2)) ∧
      ∀ p ∈ conditionalCalls, p.2 s.flags = true → exec (p.1 addr) s = .refused (.absentMemory (s.sp - 2))) ∧
    (s.kindAt s.sp = .absent →
      exec .ret s = .refused (.absentMemory s.sp) ∧
      ∀ p ∈ conditionalReturns, p.2 s.flags = true → exec p.1 s = .refused (.absentMemory s.sp)) ∧
    (s.present s.sp → s.kindAt (s.sp + 1) = .absent →
      exec .ret s = .refused (.absentMemory (s.sp + 1)) ∧
      ∀ p ∈ conditionalReturns, p.2 s.flags = true → exec p.1 s = .refused (.absentMemory (s.sp + 1)))

/-- TRAP, RST 5.5, 6.5, 7.5 call 0024H, 002CH, 0034H, 003CH, where no RST n goes. None of the four addresses is 8 * n,
so no RST n goes there; and taking TRAP, RST 5.5, RST 6.5 or RST 7.5 is a call to its address, made in the
acknowledged state. (R182) -/
def Obligations.InternalRestartsAreNoRst : Prop :=
  (∀ m : Nat, 8 * m ≠ 0x24 ∧ 8 * m ≠ 0x2C ∧ 8 * m ≠ 0x34 ∧ 8 * m ≠ 0x3C) ∧
    (∀ (n : BitVec 3) (s t : State), exec (.rst n) s = .next t →
      t.pc ≠ 0x0024 ∧ t.pc ≠ 0x002C ∧ t.pc ≠ 0x0034 ∧ t.pc ≠ 0x003C) ∧
    ∀ s : State,
      interruptEntry .trap s = callTo 0x0024 (acknowledge .trap s) ∧
      interruptEntry .rst55 s = callTo 0x002C (acknowledge .rst55 s) ∧
      interruptEntry .rst65 s = callTo 0x0034 (acknowledge .rst65 s) ∧
      interruptEntry .rst75 s = callTo 0x003C (acknowledge .rst75 s)

/-- A pop after a push gives the value back and restores SP. With canonical memory and RAM at SP-1 and SP-2, after a
push of v any state with the SP, the configuration and the two stack bytes the push left pops v and gets the SP from
before the push. The stack discipline is the spec's own decision D7 (log 13). (42_branch.md section 1;
92_eei_decisions.md D7) -/
def Obligations.PushThenPopRestores : Prop :=
  ∀ (s t u : State) (v : Addr), Memory.wf s.mem = true →
    s.kindAt (s.sp - 1) = .ram → s.kindAt (s.sp - 2) = .ram → push16 s v = .ok t →
    u.sp = t.sp → u.cfg = t.cfg → u.byteAt t.sp = t.byteAt t.sp → u.byteAt (t.sp + 1) = t.byteAt (t.sp + 1) →
    pop16 u = .ok (v, { u with sp := s.sp })

/-- RET right after CALL resumes at the instruction after the call with SP restored. With canonical memory and RAM at
SP-1 and SP-2, RET in the state a CALL leaves completes with PC and SP as they were when the CALL ran, and nothing
else changed: the stack bytes stay. Rests on decision D7 (log 13). (42_branch.md section 4; 92_eei_decisions.md D7) -/
def Obligations.CallThenReturnResumes : Prop :=
  ∀ (s t : State) (addr : Addr), Memory.wf s.mem = true →
    s.kindAt (s.sp - 1) = .ram → s.kindAt (s.sp - 2) = .ram → exec (.call addr) s = .next t →
    exec .ret t = .next { t with pc := s.pc, sp := s.sp }

/-- A push at SP = 0001H or 0000H and a pop at SP = FFFFH wrap around the address space. With canonical memory and RAM
at 0000H, FFFEH and FFFFH: CALL with SP = 0001H writes the high-order byte at 0000H and the low-order byte at FFFFH
and leaves SP = FFFFH; with SP = 0000H it writes FFFFH and FFFEH and leaves SP = FFFEH; RET with SP = FFFFH takes the
low-order byte from FFFFH, the high-order byte from 0000H and leaves SP = 0001H. Rests on decision D9 (log 13).
(20_memory.md section 8; 92_eei_decisions.md D9) -/
def Obligations.StackWrapsAtAddressEnds : Prop :=
  ∀ (s : State) (addr : Addr), Memory.wf s.mem = true →
    s.kindAt 0x0000 = .ram → s.kindAt 0xFFFE = .ram → s.kindAt 0xFFFF = .ram →
    (s.sp = 0x0001 → ∃ t, exec (.call addr) s = .next t ∧ t.sp = 0xFFFF ∧
      t.byteAt 0x0000 = hiByte s.pc ∧ t.byteAt 0xFFFF = loByte s.pc) ∧
    (s.sp = 0x0000 → ∃ t, exec (.call addr) s = .next t ∧ t.sp = 0xFFFE ∧
      t.byteAt 0xFFFF = hiByte s.pc ∧ t.byteAt 0xFFFE = loByte s.pc) ∧
    (s.sp = 0xFFFF → exec .ret s =
      .next { s with pc := ofBytes (s.byteAt 0xFFFF) (s.byteAt 0x0000), sp := 0x0001 })

/-- Each of the 30 mnemonics outside the scope is refused with OutOfScopeOpcode, whatever its operand. For every state
and operand, LXI, STAX, INX, INR, DCR, MVI, DAD, LDAX, DCX, SHLD, DAA, LHLD, STA, LDA, MOV, ADD, ADC, SUB, SBB, POP,
PUSH, ADI, ACI, OUT, SUI, IN, SBI, XTHL, XCHG, SPHL are refused with OutOfScopeOpcode of the address of the opcode
byte and that byte. The refusal is the spec's own decision D3 (log 8). That exec names PC - 1 as this address, of the
two- and three-byte instructions too, is the model's DESIGN CHOICE (log 10): the decoder reads the opcode byte alone,
so PC stands one past it. (30_encoding.md section 3; 30_encoding.md section 5; 00_scope.md section 2;
92_eei_decisions.md D3) -/
def Obligations.OutOfScopeInstructionsRefused : Prop :=
  ∀ s : State,
    (∀ (pair : RegPair), exec (.lxi pair) s = .refused (.outOfScopeOpcode (s.pc - 1) (opcode (.lxi pair)))) ∧
    (∀ (pair : RegPair), exec (.stax pair) s = .refused (.outOfScopeOpcode (s.pc - 1) (opcode (.stax pair)))) ∧
    (∀ (pair : RegPair), exec (.inx pair) s = .refused (.outOfScopeOpcode (s.pc - 1) (opcode (.inx pair)))) ∧
    (∀ (x : Operand), exec (.inr x) s = .refused (.outOfScopeOpcode (s.pc - 1) (opcode (.inr x)))) ∧
    (∀ (x : Operand), exec (.dcr x) s = .refused (.outOfScopeOpcode (s.pc - 1) (opcode (.dcr x)))) ∧
    (∀ (x : Operand), exec (.mvi x) s = .refused (.outOfScopeOpcode (s.pc - 1) (opcode (.mvi x)))) ∧
    (∀ (pair : RegPair), exec (.dad pair) s = .refused (.outOfScopeOpcode (s.pc - 1) (opcode (.dad pair)))) ∧
    (∀ (pair : RegPair), exec (.ldax pair) s = .refused (.outOfScopeOpcode (s.pc - 1) (opcode (.ldax pair)))) ∧
    (∀ (pair : RegPair), exec (.dcx pair) s = .refused (.outOfScopeOpcode (s.pc - 1) (opcode (.dcx pair)))) ∧
    (exec .shld s = .refused (.outOfScopeOpcode (s.pc - 1) (opcode .shld))) ∧
    (exec .daa s = .refused (.outOfScopeOpcode (s.pc - 1) (opcode .daa))) ∧
    (exec .lhld s = .refused (.outOfScopeOpcode (s.pc - 1) (opcode .lhld))) ∧
    (exec .sta s = .refused (.outOfScopeOpcode (s.pc - 1) (opcode .sta))) ∧
    (exec .lda s = .refused (.outOfScopeOpcode (s.pc - 1) (opcode .lda))) ∧
    (∀ (dst : Operand) (src : Operand), exec (.mov dst src) s = .refused (.outOfScopeOpcode (s.pc - 1) (opcode (.mov dst src)))) ∧
    (∀ (x : Operand), exec (.add x) s = .refused (.outOfScopeOpcode (s.pc - 1) (opcode (.add x)))) ∧
    (∀ (x : Operand), exec (.adc x) s = .refused (.outOfScopeOpcode (s.pc - 1) (opcode (.adc x)))) ∧
    (∀ (x : Operand), exec (.sub x) s = .refused (.outOfScopeOpcode (s.pc - 1) (opcode (.sub x)))) ∧
    (∀ (x : Operand), exec (.sbb x) s = .refused (.outOfScopeOpcode (s.pc - 1) (opcode (.sbb x)))) ∧
    (∀ (pair : StackPair), exec (.pop pair) s = .refused (.outOfScopeOpcode (s.pc - 1) (opcode (.pop pair)))) ∧
    (∀ (pair : StackPair), exec (.push pair) s = .refused (.outOfScopeOpcode (s.pc - 1) (opcode (.push pair)))) ∧
    (exec .adi s = .refused (.outOfScopeOpcode (s.pc - 1) (opcode .adi))) ∧
    (exec .aci s = .refused (.outOfScopeOpcode (s.pc - 1) (opcode .aci))) ∧
    (exec .outp s = .refused (.outOfScopeOpcode (s.pc - 1) (opcode .outp))) ∧
    (exec .sui s = .refused (.outOfScopeOpcode (s.pc - 1) (opcode .sui))) ∧
    (exec .inp s = .refused (.outOfScopeOpcode (s.pc - 1) (opcode .inp))) ∧
    (exec .sbi s = .refused (.outOfScopeOpcode (s.pc - 1) (opcode .sbi))) ∧
    (exec .xthl s = .refused (.outOfScopeOpcode (s.pc - 1) (opcode .xthl))) ∧
    (exec .xchg s = .refused (.outOfScopeOpcode (s.pc - 1) (opcode .xchg))) ∧
    (exec .sphl s = .refused (.outOfScopeOpcode (s.pc - 1) (opcode .sphl)))

/-- An undefined opcode byte is refused with UndefinedOpcode, never run as another instruction. For every state, the
undefined instruction of any of the ten bytes is refused with UndefinedOpcode of its address and the byte. The refusal
is the spec's own decision D4 (log 8). That exec names PC - 1 as this address is the model's DESIGN CHOICE (log 10):
the decoder reads the opcode byte alone, so PC stands one past it. (30_encoding.md section 3; 30_encoding.md section
5; 92_eei_decisions.md D4) -/
def Obligations.UndefinedBytesRefused : Prop :=
  ∀ (s : State), ∀ op ∈ undefinedBytes, exec (.undefined op) s = .refused (.undefinedOpcode (s.pc - 1) op)

/-- A step at a byte outside the scope, an undefined byte or no memory is refused, naming PC. If no reset is applied,
no interrupt taken and the machine is not halted: with nothing at PC the step is refused with AbsentMemory(PC); with a
byte at PC that is one of the ten undefined ones, with UndefinedOpcode(PC, byte); with a byte that is neither in scope
nor undefined, with OutOfScopeOpcode(PC, byte), whatever follows it in memory. Rests on decisions D3, D4, D10 (log 8,
log 24). (00_scope.md section 5; 30_encoding.md section 3; 92_eei_decisions.md D3; 92_eei_decisions.md D4) -/
def Obligations.FetchRefusals : Prop :=
  ∀ s : State, s.executes →
    (s.kindAt s.pc = .absent → step s = .refused (.absentMemory s.pc)) ∧
    (s.present s.pc → s.byteAt s.pc ∈ undefinedBytes →
      step s = .refused (.undefinedOpcode s.pc (s.byteAt s.pc))) ∧
    (s.present s.pc → s.byteAt s.pc ∉ undefinedBytes → s.byteAt s.pc ∉ scopeBytes →
      step s = .refused (.outOfScopeOpcode s.pc (s.byteAt s.pc)))

/-- Which interrupt is taken: TRAP first, then the unmasked ones in order, if IE and no EI delay. For every state and
delay, the source taken is TRAP if its request is latched; else none if IE is 0 or the delay holds; else the first of
RST 7.5 (flip-flop set, mask 0), RST 6.5 (level, mask 0), RST 5.5 (level, mask 0), INTR (level); else none. The
priority is the spec's own decision D13, the request kinds decision D14 (log 19). (60_exceptions.md section 3;
92_eei_decisions.md D13; 92_eei_decisions.md D14) -/
def Obligations.SourceTakenByMaskAndPriority : Prop :=
  ∀ (hold : Bool) (s : State), firstSource hold s =
    if s.trapl = true then some .trap
    else if s.ie = false ∨ hold = true then none
    else if s.i75 = true ∧ s.m75 = false then some .rst75
    else if s.env.rst65 = true ∧ s.m65 = false then some .rst65
    else if s.env.rst55 = true ∧ s.m55 = false then some .rst55
    else if s.env.intr = true then some .intr
    else none

/-- Taking TRAP, RST 7.5, 6.5 or 5.5 pushes PC, resets IE, EIHOLD, HALTED and its latch, and goes on. In every state
with canonical memory, memory at SP-1 and SP-2 and no reset, if one of the four internal sources is taken the step
completes: PC (not advanced) is pushed, PC is 0024H, 003CH, 0034H or 002CH, IE, EIHOLD and HALTED are 0, the latch of
the source taken is 0 and the other keeps what it had or what arrived; registers, flags, masks, SOD and every other
byte are unchanged. The entry of the latches is the spec's own decisions D21, D22, the push D7 (log 19, log 13).
(60_exceptions.md section 4; 92_eei_decisions.md D21; 92_eei_decisions.md D22) -/
def Obligations.InterruptEntry : Prop :=
  ∀ s : State, ∀ p ∈ [(Source.trap, (0x0024 : Addr)), (.rst75, 0x003C), (.rst65, 0x0034), (.rst55, 0x002C)],
    s.env.reset = false → s.taken = some p.1 → Memory.wf s.mem = true → s.pushable →
    ∃ t, step s = .next t ∧
      CallEffect
        { s with
          ie := false, eihold := false, halted := false, boundary := s.boundary + 1
          trapl := if p.1 = .trap then false else s.trapl || s.env.trapEvent
          i75 := if p.1 = .rst75 then false else s.i75 || s.env.rst75Edge }
        p.2 t

/-- Taking INTR runs the inserted RST n: PC is pushed unadvanced, PC is 8 * n, IE is reset. In every state with
canonical memory, memory at SP-1 and SP-2 and no reset, if INTR is taken and the inserted byte is 11nnn111 the step
completes with PC pushed, PC = 8 * n, IE, EIHOLD and HALTED 0, and everything else as events left it. Rests on
decisions D14, D16, D7 (log 19, log 9, log 13). (60_exceptions.md section 4; 92_eei_decisions.md D16) -/
def Obligations.IntrEntry : Prop :=
  ∀ (s : State) (n : BitVec 3),
    s.env.reset = false → s.taken = some .intr → s.env.inserted = 0b11#2 ++ n ++ 0b111#3 →
    Memory.wf s.mem = true → s.pushable →
    ∃ t, step s = .next t ∧
      CallEffect
        { s with
          ie := false, eihold := false, halted := false, boundary := s.boundary + 1
          trapl := s.trapl || s.env.trapEvent
          i75 := s.i75 || s.env.rst75Edge }
        (BitVec.ofNat 16 (8 * n.toNat)) t

/-- An inserted byte that is no RST, or a stack byte without memory, refuses the interrupt's step. If no reset is
applied: INTR taken with an inserted byte that is not 11nnn111 is refused with InsertedOpcode of that byte, whatever
the stack; any internal source taken, or INTR with an RST, is refused with AbsentMemory of SP-1 where nothing lies
there, else of SP-2 where nothing lies there. Rests on decisions D16, D10 (log 9, log 24). (60_exceptions.md section
4; 20_memory.md section 9; 92_eei_decisions.md D16) -/
def Obligations.InterruptRefusals : Prop :=
  ∀ (s : State) (src : Source), s.env.reset = false → s.taken = some src →
    (src = .intr → (∀ n : BitVec 3, s.env.inserted ≠ 0b11#2 ++ n ++ 0b111#3) →
      step s = .refused (.insertedOpcode s.env.inserted)) ∧
    ((src ≠ .intr ∨ ∃ n : BitVec 3, s.env.inserted = 0b11#2 ++ n ++ 0b111#3) →
      (s.kindAt (s.sp - 1) = .absent → step s = .refused (.absentMemory (s.sp - 1))) ∧
      (s.present (s.sp - 1) → s.kindAt (s.sp - 2) = .absent → step s = .refused (.absentMemory (s.sp - 2))))

/-- A latched or arriving TRAP request is taken at once, whatever IE, the masks, the EI delay and the halt. In every
state with memory at SP-1 and SP-2 and no reset, if a TRAP request is latched or arrives, the step takes TRAP: it
completes with PC = 0024H, the latch and IE and HALTED reset. The latch is the spec's own decision D22 (log 19).
(60_exceptions.md section 3; 60_exceptions.md section 4; 92_eei_decisions.md D22) -/
def Obligations.TrapNeverHeldOff : Prop :=
  ∀ s : State, s.env.reset = false → (s.trapl || s.env.trapEvent) = true → s.pushable →
    ∃ t, step s = .next t ∧ t.pc = 0x0024 ∧ t.trapl = false ∧ t.ie = false ∧ t.halted = false

/-- With EI_DELAY = 1 the instruction after EI executes before any maskable interrupt is taken. If a step executes the
EI whose byte lies at PC and goes on, IE is set, EIHOLD is EI_DELAY and PC is one further; where EI_DELAY is 1, the
next step, unless a reset or a TRAP event comes, executes the instruction at PC whatever other requests there are.
Rests on decision D15 (log 20). (60_exceptions.md section 3; 70_reset_and_hazards.md section 3; 92_eei_decisions.md
D15) -/
def Obligations.EiProtectsNextInstruction : Prop :=
  ∀ s t : State, s.executes → s.present s.pc → s.byteAt s.pc = 0xFB → step s = .next t →
    t.ie = true ∧ t.eihold = s.cfg.eiDelay ∧ t.pc = s.pc + 1 ∧
      (s.cfg.eiDelay = true → t.env.reset = false → t.env.trapEvent = false →
        step t = afterBoundary (executeNext t.atCheck))

/-- A halted machine with nothing to take changes nothing but what the environment latches. In every halted state,
with no reset and no source taken, the step completes and changes only the two latches as events set them, EIHOLD
(cleared at every boundary) and the number of the boundary. Rests on decisions D15, D21, D22 (log 19, log 20).
(10_state.md section 6; 41_control.md; 60_exceptions.md section 3) -/
def Obligations.HaltedMachineWaits : Prop :=
  ∀ s : State, s.halted = true → s.env.reset = false → s.taken = none →
    step s = .next { s with
      trapl := s.trapl || s.env.trapEvent, i75 := s.i75 || s.env.rst75Edge, eihold := false, boundary := s.boundary + 1 }

/-- The halt state is left only by a reset or by an interrupt that is taken. If a step leads from a halted state to
one that is not halted, a reset was applied or a source was taken at its boundary (conflict C2: a masked or disabled
request does not count); if it leads into the halt state from outside it, the byte at PC was HLT and was executed.
(10_state.md section 6; 90_conflicts.md C2) -/
def Obligations.HaltLeftOnlyByInterruptOrReset : Prop :=
  ∀ s t : State, step s = .next t →
    (s.halted = true → t.halted = false → s.env.reset = true ∨ ∃ src, s.taken = some src) ∧
    (s.halted = false → t.halted = true → s.executes ∧ s.byteAt s.pc = 0x76)

/-- A reset at a boundary: the reset values, free values in registers, SP and flags, memory unchanged. Whenever Env
applies a reset, the step completes, whatever else is pending, with PC 0000H, IE 0, masks 1, both latches, SOD, HALTED
and EIHOLD 0, the registers, SP and flags at the free values of this draw, memory and configuration unchanged. The
values are the spec's own decision D12 (log 18), the free values decision D30 (log 4). (70_reset_and_hazards.md
section 1; 92_eei_decisions.md D12; 92_eei_decisions.md D30) -/
def Obligations.ResetEvent : Prop :=
  ∀ s : State, s.env.reset = true →
    ∃ (f : Flags) (t : State), step s = .next t ∧
      (let r := Config.resetDraw s.draws
       f = ⟨r.flagS, r.flagZ, r.flagAC, r.flagP, r.flagCY⟩ ∧
       t = { a := r.a, b := r.b, c := r.c, d := r.d, e := r.e, h := r.h, l := r.l, sp := r.sp, flags := f
             pc := 0x0000, ie := false, m75 := true, m65 := true, m55 := true, i75 := false, trapl := false
             sod := false, halted := false, eihold := false
             mem := s.mem, cfg := s.cfg, oracle := s.oracle, boundary := s.boundary + 1, draws := s.draws + 1 })

/-- The state after reset has the values the spec gives for reset. In State.reset PC is 0000H, IE, the RST 7.5 flip-
flop, the TRAP latch, SOD, HALTED and EIHOLD are 0 and the three masks are 1. But for IE and HALTED the values are the
spec's own decision D12 (log 18). Nothing is said of the values the model chose (log 5, log 6). (10_state.md section
8; 92_eei_decisions.md D12) -/
def Obligations.ResetStateValues : Prop :=
  State.reset.pc = 0x0000 ∧ State.reset.ie = false ∧ State.reset.m75 = true ∧ State.reset.m65 = true ∧
    State.reset.m55 = true ∧ State.reset.i75 = false ∧ State.reset.trapl = false ∧ State.reset.sod = false ∧
    State.reset.halted = false ∧ State.reset.eihold = false

/-- The state after reset meets the machine's invariant. State.reset has canonical memory and EIHOLD is not set. That
reset memory lists nothing is the model's DESIGN CHOICE (log 6). (10_state.md section 8; 20_memory.md section 1) -/
def Obligations.ResetStateMeetsInvariant : Prop :=
  State.reset.Inv

/-- Every step keeps memory canonical and EIHOLD within an EI's shadow. From every state that meets the invariant, a
step that goes on leads to one that meets it: memory stays in canonical form (the model's representation, log 6), and
EIHOLD is 1 only with IE set, not halted, and EI_DELAY = 1 (decision D15, log 20). (10_state.md section 6;
20_memory.md section 1; 92_eei_decisions.md D15) -/
def Obligations.StepKeepsInvariant : Prop :=
  ∀ s t : State, s.Inv → step s = .next t → t.Inv

/-- No step changes MemMap, EI_DELAY or Env, and each goes on to the next boundary. Whatever a step does, if it goes
on the configuration and the environment are the same and the number of the boundary is one higher. MemMap, EI_DELAY
and Env as fields of State are the model's DESIGN CHOICE (log 1, log 2). (00_scope.md section 3) -/
def Obligations.StepKeepsConfiguration : Prop :=
  ∀ s t : State, step s = .next t → t.cfg = s.cfg ∧ t.oracle = s.oracle ∧ t.boundary = s.boundary + 1

/-- Without a reset no step changes B, C, D, E, H or L. A step that goes on and applies no reset leaves B, C, D, E, H
and L as they were, and draws no reset value. (10_state.md section 1) -/
def Obligations.RegistersBToLConstant : Prop :=
  ∀ s t : State, s.env.reset = false → step s = .next t →
    t.b = s.b ∧ t.c = s.c ∧ t.d = s.d ∧ t.e = s.e ∧ t.h = s.h ∧ t.l = s.l ∧ t.draws = s.draws

/-- A step changes no byte of memory but the two of a push, and none unless SP goes down by two. Whatever a step does,
if it goes on every address other than SP-1 and SP-2 (SP before the step) reads as before; and if any byte reads
differently, SP is lower by 2. Rests on decisions D7, D11 (log 13, log 24). (20_memory.md section 4; 20_memory.md
section 7; 92_eei_decisions.md D7) -/
def Obligations.MemoryWrittenOnlyByPushes : Prop :=
  ∀ s t : State, step s = .next t →
    (∀ a, a ≠ s.sp - 1 → a ≠ s.sp - 2 → t.byteAt a = s.byteAt a) ∧
    ((∃ a, t.byteAt a ≠ s.byteAt a) → t.sp = s.sp - 2)

/-- No step changes a byte that is not RAM. Whatever a step does, if it goes on every address that MemMap does not
classify as RAM reads as before. Rests on decision D10 (log 24). (20_memory.md section 9; 92_eei_decisions.md D10) -/
def Obligations.RomNeverChanges : Prop :=
  ∀ s t : State, step s = .next t → ∀ a, s.kindAt a ≠ .ram → t.byteAt a = s.byteAt a

/-- IE and EIHOLD are written by EI and DI alone, masks and flip-flop by SIM, HALTED by HLT. If an instruction goes
on: IE and EIHOLD are unchanged unless it is EI or DI; the masks and the RST 7.5 flip-flop unless it is SIM; HALTED
unless it is HLT; the TRAP latch, the configuration, the environment, its boundary and the draws always; B, C, D, E,
H, L always. (10_state.md section 5; 10_state.md section 6; 10_state.md section 1) -/
def Obligations.ControlCellWriters : Prop :=
  ∀ (i : Instr) (s t : State), exec i s = .next t →
    (i ≠ .ei → i ≠ .di → t.ie = s.ie ∧ t.eihold = s.eihold) ∧
    (i ≠ .sim → t.m75 = s.m75 ∧ t.m65 = s.m65 ∧ t.m55 = s.m55 ∧ t.i75 = s.i75) ∧
    (i ≠ .hlt → t.halted = s.halted) ∧
    t.trapl = s.trapl ∧ t.cfg = s.cfg ∧ t.oracle = s.oracle ∧ t.boundary = s.boundary ∧ t.draws = s.draws ∧
    t.b = s.b ∧ t.c = s.c ∧ t.d = s.d ∧ t.e = s.e ∧ t.h = s.h ∧ t.l = s.l

/-- Only the listed instructions write A or a flag; only branches write PC, SP or memory. If an instruction goes on:
the flags are unchanged unless it is CMP, CPI, ANA, ANI, XRA, XRI, ORA, ORI, a rotate, CMC or STC; A is unchanged
unless it is ANA, ANI, XRA, XRI, ORA, ORI, a rotate, CMA or RIM; PC, SP and memory are unchanged unless it is in the
branching group. Flags of rows the source is silent on: decision D20 (log 16). (10_state.md section 4; 10_state.md
section 1; 10_state.md section 2; 92_eei_decisions.md D20) -/
def Obligations.AccumulatorAndFlagWriters : Prop :=
  ∀ (i : Instr) (s t : State), exec i s = .next t →
    (writesFlags i = false → t.flags = s.flags) ∧ (writesA i = false → t.a = s.a) ∧
    (isBranch i = false → t.pc = s.pc ∧ t.sp = s.sp ∧ t.mem = s.mem)

/-- Whatever AC holds, the machine does the same: two states that differ in AC stay so. With another value of AC every
step goes on to the same state but for AC, or is refused the same way: no instruction, interrupt or reset reads AC.
(10_state.md section 4) -/
def Obligations.AuxiliaryCarryIsNeverRead : Prop :=
  ∀ (s : State) (b : Bool),
    (∀ t, step s = .next t → ∃ u, step (s.withAc b) = .next u ∧ u.withAc false = t.withAc false) ∧
    ∀ r, step s = .refused r → step (s.withAc b) = .refused r

/-- Where memory is everywhere, every instruction of the scope completes for every operand. For every well-formed
instruction of the 50 mnemonics in scope and every state in which no address is absent, exec answers a next state:
there is no synchronous exception. Rests on decisions D3, D4, D10 (log 8, log 11, log 24). (60_exceptions.md section
1; 00_scope.md section 2) -/
def Obligations.ScopeInstructionsAllComplete : Prop :=
  ∀ (i : Instr) (s : State), i.wf = true → inScope i = true → (∀ a, s.present a) → ∃ t, exec i s = .next t

/-- A step goes on or is refused for one of the four reasons of the spec, each for its cause. A step that does not go
on is refused, and then: with AbsentMemory of an address where there is nothing; or, executing, with OutOfScopeOpcode
or UndefinedOpcode of PC and the byte there, which is outside the scope or undefined; or, INTR being taken, with
InsertedOpcode of the inserted byte, which is no RST. Rests on decisions D3, D4, D10, D16 (log 8, log 9, log 24).
(00_scope.md section 5; 92_eei_decisions.md D3; 92_eei_decisions.md D16) -/
def Obligations.StepRefusalsAreTheFour : Prop :=
  ∀ s : State, (∃ t, step s = .next t) ∨ ∃ r, step s = .refused r ∧
    ((∃ a, r = .absentMemory a ∧ s.kindAt a = .absent) ∨
     (s.executes ∧ r = .outOfScopeOpcode s.pc (s.byteAt s.pc) ∧ s.byteAt s.pc ∉ scopeBytes ∧
        s.byteAt s.pc ∉ undefinedBytes) ∨
     (s.executes ∧ r = .undefinedOpcode s.pc (s.byteAt s.pc) ∧ s.byteAt s.pc ∈ undefinedBytes) ∨
     (s.taken = some .intr ∧ r = .insertedOpcode s.env.inserted ∧
        ∀ n : BitVec 3, s.env.inserted ≠ 0b11#2 ++ n ++ 0b111#3))

/-- A run that has ended never goes on: for any number of steps the state stays but for a masked RST 7.5 edge. From a
state where the run has ended (halted, nothing pending that can be taken, at no coming boundary a reset or an
interrupt that can be taken), any number of steps completes, the run is still ended, and nothing has changed but the
number of the boundary and the RST 7.5 flip-flop, which a masked or disabled edge may set. The end of a run is the
spec's own decision D28. (70_reset_and_hazards.md section 5; 92_eei_decisions.md D28) -/
def Obligations.EndedRunStaysEnded : Prop :=
  ∀ s : State, s.ended → ∀ k : Nat, ∃ t, Sys2Proof.core.run k s = .next t ∧ State.ended t ∧
    t = { s with i75 := t.i75, boundary := s.boundary + k }

/-- After k steps the machine consults Env at boundary k further on, of the same environment. For every state and
number of steps k, if k steps complete, the state they lead to has the same environment and the same platform, stands
k boundaries further on, and sees there what Env shows at that boundary, no step having changed what is to come. Env
as a function of the boundary number is the spec's own decision D14; how State holds it is the model's DESIGN CHOICE
(log 2). (60_exceptions.md section 2; 92_eei_decisions.md D14) -/
def Obligations.RunConsultsEnvOncePerBoundary : Prop :=
  ∀ (k : Nat) (s t : State), Sys2Proof.core.run k s = .next t →
    State.oracle t = s.oracle ∧ State.cfg t = s.cfg ∧ State.boundary t = s.boundary + k ∧
      State.env t = s.sample (s.boundary + k)

/-- Any samples may come first, and behind them any sample may stay for ever, or anything may come. For every state,
list of samples and sample e: with that list and e steady behind it, Env shows the listed samples at boundaries 0, 1
and so on, and e at every boundary behind them, for ever; with a free environment behind the list it shows the free
value of the boundary, of which nothing is known. Env is unconstrained by the spec's own decision D14; how State holds
it is the model's DESIGN CHOICE (log 2). (60_exceptions.md section 2; 92_eei_decisions.md D14) -/
def Obligations.EnvironmentIsUnconstrained : Prop :=
  ∀ (s : State) (listed : List Env) (e : Env) (k n : Nat),
    State.sample { s with oracle := ⟨listed, .steady e⟩ } n = listed.getD n e ∧
      State.sample { s with oracle := ⟨listed, .free k⟩ } n = listed.getD n (Config.freeEnv k n)
end

