-- ==== Sys2Proof/Laws/Decode.lean ====
section
/-! SUPPORT. The decoder by the row of the opcode table its first byte selects, and the byte order of a 16-bit quantity. -/

namespace Sys2Proof

/-- A row is selected only by a byte that matches it, and is a row of the table. -/
theorem rowOf_some {b : Byte} {r : OpcodeRow} (h : rowOf b = some r) : r ∈ opcodeRows ∧ r.selects b = true := by
  unfold rowOf at h
  exact ⟨List.mem_of_find?_eq_some h, by simpa using List.find?_some h⟩

/-- The bytes read for an opcode of the scope are its row's length. -/
theorem fetchLength_of_row {b : Byte} {r : OpcodeRow} (h : rowOf b = some r) (hs : r.scope = .inScope) :
    fetchLength b = r.length := by
  simp only [fetchLength, h, hs, if_true]

/-- The bytes read for an opcode outside the scope are the opcode alone. -/
theorem fetchLength_of_outOfScope {b : Byte} {r : OpcodeRow} (h : rowOf b = some r) (hs : r.scope = .outOfScope) :
    fetchLength b = 1 := by
  simp [fetchLength, h, hs]

/-- The instruction read for an opcode with a row. -/
theorem decodeBytes_of_row {b1 b2 b3 : Byte} {r : OpcodeRow} (h : rowOf b1 = some r) :
    decodeBytes b1 b2 b3 = r.build b1 b2 b3 := by
  simp only [decodeBytes, h]

/-- A byte no row selects is one of the ten undefined bytes, and the other way round (30_encoding.md R81). -/
theorem rowOf_eq_none_iff : ∀ b : Byte, rowOf b = none ↔ b ∈ undefinedBytes := by
  have key : ∀ b : Byte, (rowOf b).isNone = undefinedBytes.contains b := by decide +kernel
  intro b
  have := key b
  rw [← Option.isNone_iff_eq_none, this, List.contains_iff_mem]

/-- The decoder goes on where enough bytes stand behind the opcode. -/
theorem decode_cons {b1 : Byte} {rest : List Byte} (h : fetchLength b1 ≤ rest.length + 1) :
    decode (b1 :: rest) =
      .ok (decodeBytes b1 (rest.getD 0 0) (rest.getD 1 0), (b1 :: rest).drop (fetchLength b1)) := by
  simp only [decode]
  rw [if_neg (by simpa using h)]

/-- The decoder at an opcode of the scope. -/
theorem decode_of_row {b1 : Byte} {r : OpcodeRow} {rest : List Byte} (h : rowOf b1 = some r)
    (hs : r.scope = .inScope) (hl : r.length ≤ rest.length + 1) :
    decode (b1 :: rest) = .ok (r.build b1 (rest.getD 0 0) (rest.getD 1 0), (b1 :: rest).drop r.length) := by
  rw [decode_cons (by rw [fetchLength_of_row h hs]; exact hl), decodeBytes_of_row h, fetchLength_of_row h hs]

/-- The two bytes of a 16-bit quantity give it back. -/
theorem ofBytes_lo_hi (v : Addr) : ofBytes (loByte v) (hiByte v) = v := by
  unfold ofBytes loByte hiByte
  apply BitVec.eq_of_getLsbD_eq
  intro i hi
  simp only [BitVec.getLsbD_append, BitVec.getLsbD_extractLsb']
  split
  next h => simp [h]
  next h => rw [decide_eq_true (show i - 8 < 8 by omega), Bool.true_and, show 8 + (i - 8) = i by omega]

/-- A 16-bit quantity as a number: 256 times its high-order byte plus its low-order byte. -/
theorem ofBytes_toNat (lo hi : Byte) : (ofBytes lo hi).toNat = 256 * hi.toNat + lo.toNat := by
  unfold ofBytes
  rw [BitVec.toNat_append, ← Nat.shiftLeft_add_eq_or_of_lt lo.isLt, Nat.shiftLeft_eq]
  omega

/-- The low-order byte of a quantity made of two bytes. -/
theorem loByte_ofBytes (lo hi : Byte) : loByte (ofBytes lo hi) = lo := by
  have h := congrArg BitVec.toNat (ofBytes_lo_hi (ofBytes lo hi))
  rw [ofBytes_toNat, ofBytes_toNat lo hi] at h
  apply BitVec.eq_of_toNat_eq
  have h1 := lo.isLt
  have h2 := (loByte (ofBytes lo hi)).isLt
  omega

/-- The high-order byte of a quantity made of two bytes. -/
theorem hiByte_ofBytes (lo hi : Byte) : hiByte (ofBytes lo hi) = hi := by
  have h := congrArg BitVec.toNat (ofBytes_lo_hi (ofBytes lo hi))
  rw [ofBytes_toNat, ofBytes_toNat lo hi, loByte_ofBytes] at h
  apply BitVec.eq_of_toNat_eq
  omega

end Sys2Proof
end

