-- ==== Sys2Proof/Laws/Memory.lean ====
section
/-! SUPPORT. Memory: a read after a write, and the canonical form every write keeps. -/

namespace Sys2Proof.Machine

theorem Memory.read_nil (a : Nat) : Memory.read [] a = Memory.background := rfl

theorem Memory.read_cons (k : Nat) (w : Byte) (m : Memory) (a : Nat) :
    Memory.read ((k, w) :: m) a = if k = a then w else Memory.read m a := rfl

theorem Memory.wfFrom_cons (lo k : Nat) (w : Byte) (m : Memory) :
    Memory.wfFrom lo ((k, w) :: m) = true ↔
      lo ≤ k ∧ k < 65536 ∧ w ≠ Memory.background ∧ Memory.wfFrom (k + 1) m = true := by
  simp [Memory.wfFrom, and_assoc]

theorem Memory.wf_nil : Memory.wf [] = true := rfl

theorem Memory.wfFrom_mono {lo lo' : Nat} (h : lo' ≤ lo) :
    ∀ {m : Memory}, Memory.wfFrom lo m = true → Memory.wfFrom lo' m = true
  | [], _ => rfl
  | (k, w) :: m, hm => by
    rw [Memory.wfFrom_cons] at hm ⊢
    exact ⟨h.trans hm.1, hm.2⟩

/-- Below its lower bound a canonical memory lists nothing. -/
theorem Memory.read_of_lt {a : Nat} :
    ∀ {lo : Nat} {m : Memory}, Memory.wfFrom lo m = true → a < lo → Memory.read m a = Memory.background
  | _, [], _, _ => rfl
  | _, (k, w) :: m, hm, h => by
    rw [Memory.wfFrom_cons] at hm
    rw [Memory.read_cons, if_neg (by omega)]
    exact Memory.read_of_lt hm.2.2.2 (by omega)

/-- A write leaves every other address alone. -/
theorem Memory.read_write_of_ne {a b : Nat} (v : Byte) (h : a ≠ b) :
    ∀ m : Memory, Memory.read (Memory.write m a v) b = Memory.read m b
  | [] => by
    unfold Memory.write
    split
    · rfl
    · rw [Memory.read_cons, if_neg h]
  | (k, w) :: m => by
    unfold Memory.write
    split
    · rw [Memory.read_cons, Memory.read_cons, Memory.read_write_of_ne v h m]
    · split
      next hk =>
        subst hk
        split <;> simp [Memory.read_cons, h]
      next =>
        split
        · rfl
        · rw [Memory.read_cons, if_neg h]

/-- A read after a write gives the value written. -/
theorem Memory.read_write_self {a : Nat} (v : Byte) :
    ∀ {lo : Nat} {m : Memory}, Memory.wfFrom lo m = true → Memory.read (Memory.write m a v) a = v
  | _, [], _ => by
    unfold Memory.write
    split
    · simp_all [Memory.read_nil]
    · simp [Memory.read_cons]
  | _, (k, w) :: m, hm => by
    rw [Memory.wfFrom_cons] at hm
    unfold Memory.write
    split
    · rw [Memory.read_cons, if_neg (by omega)]
      exact Memory.read_write_self v hm.2.2.2
    · split
      next hk =>
        subst hk
        split
        next hv => rw [hv]; exact Memory.read_of_lt hm.2.2.2 (by omega)
        next => simp [Memory.read_cons]
      next =>
        split
        next hv =>
          rw [Memory.read_cons, if_neg (by omega), hv]
          exact Memory.read_of_lt hm.2.2.2 (by omega)
        next => simp [Memory.read_cons]

/-- A write keeps the canonical form. -/
theorem Memory.wfFrom_write {a : Nat} (v : Byte) (ha : a < 65536) :
    ∀ {lo : Nat} {m : Memory}, lo ≤ a → Memory.wfFrom lo m = true → Memory.wfFrom lo (Memory.write m a v) = true
  | _, [], hlo, _ => by
    unfold Memory.write
    split
    · rfl
    · rw [Memory.wfFrom_cons]
      exact ⟨hlo, ha, ‹_›, rfl⟩
  | _, (k, w) :: m, hlo, hm => by
    have hm' := hm
    rw [Memory.wfFrom_cons] at hm'
    obtain ⟨h1, h2, h3, h4⟩ := hm'
    unfold Memory.write
    split
    · rw [Memory.wfFrom_cons]
      exact ⟨h1, h2, h3, Memory.wfFrom_write v ha (by omega) h4⟩
    · split
      next hk =>
        subst hk
        split
        · exact Memory.wfFrom_mono (by omega) h4
        · rw [Memory.wfFrom_cons]
          exact ⟨h1, h2, ‹_›, h4⟩
      next =>
        split
        · exact hm
        · rw [Memory.wfFrom_cons]
          exact ⟨hlo, ha, ‹_›, by rw [Memory.wfFrom_cons]; exact ⟨by omega, h2, h3, h4⟩⟩

theorem Memory.wf_write {m : Memory} {a : Nat} (v : Byte) (ha : a < 65536) (h : Memory.wf m = true) :
    Memory.wf (Memory.write m a v) = true :=
  Memory.wfFrom_write v ha (Nat.zero_le a) h

/-- A stored instruction word keeps the canonical form. -/
theorem Memory.wf_storeWrite3 {m : Memory} {a b c : Addr} (u v w : Byte) (h : Memory.wf m = true) :
    Memory.wf (Memory.write (Memory.write (Memory.write m a.toNat u) b.toNat v) c.toNat w) = true :=
  Memory.wf_write w c.isLt (Memory.wf_write v b.isLt (Memory.wf_write u a.isLt h))

/-- Canonical memories that read the same everywhere are the same data. -/
theorem Memory.eq_of_read_eq :
    ∀ {lo : Nat} {m n : Memory}, Memory.wfFrom lo m = true → Memory.wfFrom lo n = true →
      (∀ a, Memory.read m a = Memory.read n a) → m = n
  | _, [], [], _, _, _ => rfl
  | _, [], (k, w) :: n, _, hn, h => by
    rw [Memory.wfFrom_cons] at hn
    have := h k
    rw [Memory.read_nil, Memory.read_cons, if_pos rfl] at this
    exact absurd this.symm hn.2.2.1
  | _, (k, w) :: m, [], hm, _, h => by
    rw [Memory.wfFrom_cons] at hm
    have := h k
    rw [Memory.read_nil, Memory.read_cons, if_pos rfl] at this
    exact absurd this hm.2.2.1
  | lo, (k, w) :: m, (k', w') :: n, hm, hn, h => by
    have hm' := (Memory.wfFrom_cons lo k w m).1 hm
    have hn' := (Memory.wfFrom_cons lo k' w' n).1 hn
    obtain hlt | heq | hgt := Nat.lt_trichotomy k k'
    · have := h k
      rw [Memory.read_cons, if_pos rfl, Memory.read_cons, if_neg (by omega),
        Memory.read_of_lt hn'.2.2.2 (by omega)] at this
      exact absurd this hm'.2.2.1
    · subst heq
      have hw := h k
      rw [Memory.read_cons, if_pos rfl, Memory.read_cons, if_pos rfl] at hw
      subst hw
      have hrest : ∀ a, Memory.read m a = Memory.read n a := fun a => by
        have := h a
        rw [Memory.read_cons, Memory.read_cons] at this
        by_cases ha : k = a
        · subst ha
          rw [Memory.read_of_lt hm'.2.2.2 (by omega), Memory.read_of_lt hn'.2.2.2 (by omega)]
        · rwa [if_neg ha, if_neg ha] at this
      rw [Memory.eq_of_read_eq hm'.2.2.2 hn'.2.2.2 hrest]
    · have := h k'
      rw [Memory.read_cons, if_neg (by omega), Memory.read_cons, if_pos rfl,
        Memory.read_of_lt hm'.2.2.2 (by omega)] at this
      exact absurd this.symm hn'.2.2.1

end Sys2Proof.Machine
end

