-- ==== Sys2Proof/Laws/State.lean ====
section
/-! SUPPORT. What each update of State leaves in each field, true by rfl, for simp. -/

namespace Sys2Proof.Machine

section
variable (s : State) (v : Byte)

@[simp] theorem State.setA_a : (s.setA v).a = v := rfl
@[simp] theorem State.setA_b : (s.setA v).b = s.b := rfl
@[simp] theorem State.setA_c : (s.setA v).c = s.c := rfl
@[simp] theorem State.setA_d : (s.setA v).d = s.d := rfl
@[simp] theorem State.setA_e : (s.setA v).e = s.e := rfl
@[simp] theorem State.setA_h : (s.setA v).h = s.h := rfl
@[simp] theorem State.setA_l : (s.setA v).l = s.l := rfl
@[simp] theorem State.setA_pc : (s.setA v).pc = s.pc := rfl
@[simp] theorem State.setA_sp : (s.setA v).sp = s.sp := rfl
@[simp] theorem State.setA_flags : (s.setA v).flags = s.flags := rfl
@[simp] theorem State.setA_ie : (s.setA v).ie = s.ie := rfl
@[simp] theorem State.setA_m75 : (s.setA v).m75 = s.m75 := rfl
@[simp] theorem State.setA_m65 : (s.setA v).m65 = s.m65 := rfl
@[simp] theorem State.setA_m55 : (s.setA v).m55 = s.m55 := rfl
@[simp] theorem State.setA_i75 : (s.setA v).i75 = s.i75 := rfl
@[simp] theorem State.setA_trapl : (s.setA v).trapl = s.trapl := rfl
@[simp] theorem State.setA_sod : (s.setA v).sod = s.sod := rfl
@[simp] theorem State.setA_halted : (s.setA v).halted = s.halted := rfl
@[simp] theorem State.setA_eihold : (s.setA v).eihold = s.eihold := rfl
@[simp] theorem State.setA_mem : (s.setA v).mem = s.mem := rfl
@[simp] theorem State.setA_cfg : (s.setA v).cfg = s.cfg := rfl
@[simp] theorem State.setA_oracle : (s.setA v).oracle = s.oracle := rfl
@[simp] theorem State.setA_boundary : (s.setA v).boundary = s.boundary := rfl
@[simp] theorem State.setA_draws : (s.setA v).draws = s.draws := rfl

end

section
variable (s : State) (f : Flags)

@[simp] theorem State.setFlags_a : (s.setFlags f).a = s.a := rfl
@[simp] theorem State.setFlags_b : (s.setFlags f).b = s.b := rfl
@[simp] theorem State.setFlags_c : (s.setFlags f).c = s.c := rfl
@[simp] theorem State.setFlags_d : (s.setFlags f).d = s.d := rfl
@[simp] theorem State.setFlags_e : (s.setFlags f).e = s.e := rfl
@[simp] theorem State.setFlags_h : (s.setFlags f).h = s.h := rfl
@[simp] theorem State.setFlags_l : (s.setFlags f).l = s.l := rfl
@[simp] theorem State.setFlags_pc : (s.setFlags f).pc = s.pc := rfl
@[simp] theorem State.setFlags_sp : (s.setFlags f).sp = s.sp := rfl
@[simp] theorem State.setFlags_flags : (s.setFlags f).flags = f := rfl
@[simp] theorem State.setFlags_ie : (s.setFlags f).ie = s.ie := rfl
@[simp] theorem State.setFlags_m75 : (s.setFlags f).m75 = s.m75 := rfl
@[simp] theorem State.setFlags_m65 : (s.setFlags f).m65 = s.m65 := rfl
@[simp] theorem State.setFlags_m55 : (s.setFlags f).m55 = s.m55 := rfl
@[simp] theorem State.setFlags_i75 : (s.setFlags f).i75 = s.i75 := rfl
@[simp] theorem State.setFlags_trapl : (s.setFlags f).trapl = s.trapl := rfl
@[simp] theorem State.setFlags_sod : (s.setFlags f).sod = s.sod := rfl
@[simp] theorem State.setFlags_halted : (s.setFlags f).halted = s.halted := rfl
@[simp] theorem State.setFlags_eihold : (s.setFlags f).eihold = s.eihold := rfl
@[simp] theorem State.setFlags_mem : (s.setFlags f).mem = s.mem := rfl
@[simp] theorem State.setFlags_cfg : (s.setFlags f).cfg = s.cfg := rfl
@[simp] theorem State.setFlags_oracle : (s.setFlags f).oracle = s.oracle := rfl
@[simp] theorem State.setFlags_boundary : (s.setFlags f).boundary = s.boundary := rfl
@[simp] theorem State.setFlags_draws : (s.setFlags f).draws = s.draws := rfl

end

section
variable (s : State) (v : Addr)

@[simp] theorem State.setPc_a : (s.setPc v).a = s.a := rfl
@[simp] theorem State.setPc_b : (s.setPc v).b = s.b := rfl
@[simp] theorem State.setPc_c : (s.setPc v).c = s.c := rfl
@[simp] theorem State.setPc_d : (s.setPc v).d = s.d := rfl
@[simp] theorem State.setPc_e : (s.setPc v).e = s.e := rfl
@[simp] theorem State.setPc_h : (s.setPc v).h = s.h := rfl
@[simp] theorem State.setPc_l : (s.setPc v).l = s.l := rfl
@[simp] theorem State.setPc_pc : (s.setPc v).pc = v := rfl
@[simp] theorem State.setPc_sp : (s.setPc v).sp = s.sp := rfl
@[simp] theorem State.setPc_flags : (s.setPc v).flags = s.flags := rfl
@[simp] theorem State.setPc_ie : (s.setPc v).ie = s.ie := rfl
@[simp] theorem State.setPc_m75 : (s.setPc v).m75 = s.m75 := rfl
@[simp] theorem State.setPc_m65 : (s.setPc v).m65 = s.m65 := rfl
@[simp] theorem State.setPc_m55 : (s.setPc v).m55 = s.m55 := rfl
@[simp] theorem State.setPc_i75 : (s.setPc v).i75 = s.i75 := rfl
@[simp] theorem State.setPc_trapl : (s.setPc v).trapl = s.trapl := rfl
@[simp] theorem State.setPc_sod : (s.setPc v).sod = s.sod := rfl
@[simp] theorem State.setPc_halted : (s.setPc v).halted = s.halted := rfl
@[simp] theorem State.setPc_eihold : (s.setPc v).eihold = s.eihold := rfl
@[simp] theorem State.setPc_mem : (s.setPc v).mem = s.mem := rfl
@[simp] theorem State.setPc_cfg : (s.setPc v).cfg = s.cfg := rfl
@[simp] theorem State.setPc_oracle : (s.setPc v).oracle = s.oracle := rfl
@[simp] theorem State.setPc_boundary : (s.setPc v).boundary = s.boundary := rfl
@[simp] theorem State.setPc_draws : (s.setPc v).draws = s.draws := rfl

end

section
variable (s : State) (v : Addr)

@[simp] theorem State.setSp_a : (s.setSp v).a = s.a := rfl
@[simp] theorem State.setSp_b : (s.setSp v).b = s.b := rfl
@[simp] theorem State.setSp_c : (s.setSp v).c = s.c := rfl
@[simp] theorem State.setSp_d : (s.setSp v).d = s.d := rfl
@[simp] theorem State.setSp_e : (s.setSp v).e = s.e := rfl
@[simp] theorem State.setSp_h : (s.setSp v).h = s.h := rfl
@[simp] theorem State.setSp_l : (s.setSp v).l = s.l := rfl
@[simp] theorem State.setSp_pc : (s.setSp v).pc = s.pc := rfl
@[simp] theorem State.setSp_sp : (s.setSp v).sp = v := rfl
@[simp] theorem State.setSp_flags : (s.setSp v).flags = s.flags := rfl
@[simp] theorem State.setSp_ie : (s.setSp v).ie = s.ie := rfl
@[simp] theorem State.setSp_m75 : (s.setSp v).m75 = s.m75 := rfl
@[simp] theorem State.setSp_m65 : (s.setSp v).m65 = s.m65 := rfl
@[simp] theorem State.setSp_m55 : (s.setSp v).m55 = s.m55 := rfl
@[simp] theorem State.setSp_i75 : (s.setSp v).i75 = s.i75 := rfl
@[simp] theorem State.setSp_trapl : (s.setSp v).trapl = s.trapl := rfl
@[simp] theorem State.setSp_sod : (s.setSp v).sod = s.sod := rfl
@[simp] theorem State.setSp_halted : (s.setSp v).halted = s.halted := rfl
@[simp] theorem State.setSp_eihold : (s.setSp v).eihold = s.eihold := rfl
@[simp] theorem State.setSp_mem : (s.setSp v).mem = s.mem := rfl
@[simp] theorem State.setSp_cfg : (s.setSp v).cfg = s.cfg := rfl
@[simp] theorem State.setSp_oracle : (s.setSp v).oracle = s.oracle := rfl
@[simp] theorem State.setSp_boundary : (s.setSp v).boundary = s.boundary := rfl
@[simp] theorem State.setSp_draws : (s.setSp v).draws = s.draws := rfl

end

section
variable (s : State) (v : Bool)

@[simp] theorem State.setIe_a : (s.setIe v).a = s.a := rfl
@[simp] theorem State.setIe_b : (s.setIe v).b = s.b := rfl
@[simp] theorem State.setIe_c : (s.setIe v).c = s.c := rfl
@[simp] theorem State.setIe_d : (s.setIe v).d = s.d := rfl
@[simp] theorem State.setIe_e : (s.setIe v).e = s.e := rfl
@[simp] theorem State.setIe_h : (s.setIe v).h = s.h := rfl
@[simp] theorem State.setIe_l : (s.setIe v).l = s.l := rfl
@[simp] theorem State.setIe_pc : (s.setIe v).pc = s.pc := rfl
@[simp] theorem State.setIe_sp : (s.setIe v).sp = s.sp := rfl
@[simp] theorem State.setIe_flags : (s.setIe v).flags = s.flags := rfl
@[simp] theorem State.setIe_ie : (s.setIe v).ie = v := rfl
@[simp] theorem State.setIe_m75 : (s.setIe v).m75 = s.m75 := rfl
@[simp] theorem State.setIe_m65 : (s.setIe v).m65 = s.m65 := rfl
@[simp] theorem State.setIe_m55 : (s.setIe v).m55 = s.m55 := rfl
@[simp] theorem State.setIe_i75 : (s.setIe v).i75 = s.i75 := rfl
@[simp] theorem State.setIe_trapl : (s.setIe v).trapl = s.trapl := rfl
@[simp] theorem State.setIe_sod : (s.setIe v).sod = s.sod := rfl
@[simp] theorem State.setIe_halted : (s.setIe v).halted = s.halted := rfl
@[simp] theorem State.setIe_eihold : (s.setIe v).eihold = s.eihold := rfl
@[simp] theorem State.setIe_mem : (s.setIe v).mem = s.mem := rfl
@[simp] theorem State.setIe_cfg : (s.setIe v).cfg = s.cfg := rfl
@[simp] theorem State.setIe_oracle : (s.setIe v).oracle = s.oracle := rfl
@[simp] theorem State.setIe_boundary : (s.setIe v).boundary = s.boundary := rfl
@[simp] theorem State.setIe_draws : (s.setIe v).draws = s.draws := rfl

end

section
variable (s : State) (v75 : Bool) (v65 : Bool) (v55 : Bool)

@[simp] theorem State.setMasks_a : (s.setMasks v75 v65 v55).a = s.a := rfl
@[simp] theorem State.setMasks_b : (s.setMasks v75 v65 v55).b = s.b := rfl
@[simp] theorem State.setMasks_c : (s.setMasks v75 v65 v55).c = s.c := rfl
@[simp] theorem State.setMasks_d : (s.setMasks v75 v65 v55).d = s.d := rfl
@[simp] theorem State.setMasks_e : (s.setMasks v75 v65 v55).e = s.e := rfl
@[simp] theorem State.setMasks_h : (s.setMasks v75 v65 v55).h = s.h := rfl
@[simp] theorem State.setMasks_l : (s.setMasks v75 v65 v55).l = s.l := rfl
@[simp] theorem State.setMasks_pc : (s.setMasks v75 v65 v55).pc = s.pc := rfl
@[simp] theorem State.setMasks_sp : (s.setMasks v75 v65 v55).sp = s.sp := rfl
@[simp] theorem State.setMasks_flags : (s.setMasks v75 v65 v55).flags = s.flags := rfl
@[simp] theorem State.setMasks_ie : (s.setMasks v75 v65 v55).ie = s.ie := rfl
@[simp] theorem State.setMasks_m75 : (s.setMasks v75 v65 v55).m75 = v75 := rfl
@[simp] theorem State.setMasks_m65 : (s.setMasks v75 v65 v55).m65 = v65 := rfl
@[simp] theorem State.setMasks_m55 : (s.setMasks v75 v65 v55).m55 = v55 := rfl
@[simp] theorem State.setMasks_i75 : (s.setMasks v75 v65 v55).i75 = s.i75 := rfl
@[simp] theorem State.setMasks_trapl : (s.setMasks v75 v65 v55).trapl = s.trapl := rfl
@[simp] theorem State.setMasks_sod : (s.setMasks v75 v65 v55).sod = s.sod := rfl
@[simp] theorem State.setMasks_halted : (s.setMasks v75 v65 v55).halted = s.halted := rfl
@[simp] theorem State.setMasks_eihold : (s.setMasks v75 v65 v55).eihold = s.eihold := rfl
@[simp] theorem State.setMasks_mem : (s.setMasks v75 v65 v55).mem = s.mem := rfl
@[simp] theorem State.setMasks_cfg : (s.setMasks v75 v65 v55).cfg = s.cfg := rfl
@[simp] theorem State.setMasks_oracle : (s.setMasks v75 v65 v55).oracle = s.oracle := rfl
@[simp] theorem State.setMasks_boundary : (s.setMasks v75 v65 v55).boundary = s.boundary := rfl
@[simp] theorem State.setMasks_draws : (s.setMasks v75 v65 v55).draws = s.draws := rfl

end

section
variable (s : State) (v : Bool)

@[simp] theorem State.setI75_a : (s.setI75 v).a = s.a := rfl
@[simp] theorem State.setI75_b : (s.setI75 v).b = s.b := rfl
@[simp] theorem State.setI75_c : (s.setI75 v).c = s.c := rfl
@[simp] theorem State.setI75_d : (s.setI75 v).d = s.d := rfl
@[simp] theorem State.setI75_e : (s.setI75 v).e = s.e := rfl
@[simp] theorem State.setI75_h : (s.setI75 v).h = s.h := rfl
@[simp] theorem State.setI75_l : (s.setI75 v).l = s.l := rfl
@[simp] theorem State.setI75_pc : (s.setI75 v).pc = s.pc := rfl
@[simp] theorem State.setI75_sp : (s.setI75 v).sp = s.sp := rfl
@[simp] theorem State.setI75_flags : (s.setI75 v).flags = s.flags := rfl
@[simp] theorem State.setI75_ie : (s.setI75 v).ie = s.ie := rfl
@[simp] theorem State.setI75_m75 : (s.setI75 v).m75 = s.m75 := rfl
@[simp] theorem State.setI75_m65 : (s.setI75 v).m65 = s.m65 := rfl
@[simp] theorem State.setI75_m55 : (s.setI75 v).m55 = s.m55 := rfl
@[simp] theorem State.setI75_i75 : (s.setI75 v).i75 = v := rfl
@[simp] theorem State.setI75_trapl : (s.setI75 v).trapl = s.trapl := rfl
@[simp] theorem State.setI75_sod : (s.setI75 v).sod = s.sod := rfl
@[simp] theorem State.setI75_halted : (s.setI75 v).halted = s.halted := rfl
@[simp] theorem State.setI75_eihold : (s.setI75 v).eihold = s.eihold := rfl
@[simp] theorem State.setI75_mem : (s.setI75 v).mem = s.mem := rfl
@[simp] theorem State.setI75_cfg : (s.setI75 v).cfg = s.cfg := rfl
@[simp] theorem State.setI75_oracle : (s.setI75 v).oracle = s.oracle := rfl
@[simp] theorem State.setI75_boundary : (s.setI75 v).boundary = s.boundary := rfl
@[simp] theorem State.setI75_draws : (s.setI75 v).draws = s.draws := rfl

end

section
variable (s : State) (v : Bool)

@[simp] theorem State.setTrapl_a : (s.setTrapl v).a = s.a := rfl
@[simp] theorem State.setTrapl_b : (s.setTrapl v).b = s.b := rfl
@[simp] theorem State.setTrapl_c : (s.setTrapl v).c = s.c := rfl
@[simp] theorem State.setTrapl_d : (s.setTrapl v).d = s.d := rfl
@[simp] theorem State.setTrapl_e : (s.setTrapl v).e = s.e := rfl
@[simp] theorem State.setTrapl_h : (s.setTrapl v).h = s.h := rfl
@[simp] theorem State.setTrapl_l : (s.setTrapl v).l = s.l := rfl
@[simp] theorem State.setTrapl_pc : (s.setTrapl v).pc = s.pc := rfl
@[simp] theorem State.setTrapl_sp : (s.setTrapl v).sp = s.sp := rfl
@[simp] theorem State.setTrapl_flags : (s.setTrapl v).flags = s.flags := rfl
@[simp] theorem State.setTrapl_ie : (s.setTrapl v).ie = s.ie := rfl
@[simp] theorem State.setTrapl_m75 : (s.setTrapl v).m75 = s.m75 := rfl
@[simp] theorem State.setTrapl_m65 : (s.setTrapl v).m65 = s.m65 := rfl
@[simp] theorem State.setTrapl_m55 : (s.setTrapl v).m55 = s.m55 := rfl
@[simp] theorem State.setTrapl_i75 : (s.setTrapl v).i75 = s.i75 := rfl
@[simp] theorem State.setTrapl_trapl : (s.setTrapl v).trapl = v := rfl
@[simp] theorem State.setTrapl_sod : (s.setTrapl v).sod = s.sod := rfl
@[simp] theorem State.setTrapl_halted : (s.setTrapl v).halted = s.halted := rfl
@[simp] theorem State.setTrapl_eihold : (s.setTrapl v).eihold = s.eihold := rfl
@[simp] theorem State.setTrapl_mem : (s.setTrapl v).mem = s.mem := rfl
@[simp] theorem State.setTrapl_cfg : (s.setTrapl v).cfg = s.cfg := rfl
@[simp] theorem State.setTrapl_oracle : (s.setTrapl v).oracle = s.oracle := rfl
@[simp] theorem State.setTrapl_boundary : (s.setTrapl v).boundary = s.boundary := rfl
@[simp] theorem State.setTrapl_draws : (s.setTrapl v).draws = s.draws := rfl

end

section
variable (s : State) (v : Bool)

@[simp] theorem State.setSod_a : (s.setSod v).a = s.a := rfl
@[simp] theorem State.setSod_b : (s.setSod v).b = s.b := rfl
@[simp] theorem State.setSod_c : (s.setSod v).c = s.c := rfl
@[simp] theorem State.setSod_d : (s.setSod v).d = s.d := rfl
@[simp] theorem State.setSod_e : (s.setSod v).e = s.e := rfl
@[simp] theorem State.setSod_h : (s.setSod v).h = s.h := rfl
@[simp] theorem State.setSod_l : (s.setSod v).l = s.l := rfl
@[simp] theorem State.setSod_pc : (s.setSod v).pc = s.pc := rfl
@[simp] theorem State.setSod_sp : (s.setSod v).sp = s.sp := rfl
@[simp] theorem State.setSod_flags : (s.setSod v).flags = s.flags := rfl
@[simp] theorem State.setSod_ie : (s.setSod v).ie = s.ie := rfl
@[simp] theorem State.setSod_m75 : (s.setSod v).m75 = s.m75 := rfl
@[simp] theorem State.setSod_m65 : (s.setSod v).m65 = s.m65 := rfl
@[simp] theorem State.setSod_m55 : (s.setSod v).m55 = s.m55 := rfl
@[simp] theorem State.setSod_i75 : (s.setSod v).i75 = s.i75 := rfl
@[simp] theorem State.setSod_trapl : (s.setSod v).trapl = s.trapl := rfl
@[simp] theorem State.setSod_sod : (s.setSod v).sod = v := rfl
@[simp] theorem State.setSod_halted : (s.setSod v).halted = s.halted := rfl
@[simp] theorem State.setSod_eihold : (s.setSod v).eihold = s.eihold := rfl
@[simp] theorem State.setSod_mem : (s.setSod v).mem = s.mem := rfl
@[simp] theorem State.setSod_cfg : (s.setSod v).cfg = s.cfg := rfl
@[simp] theorem State.setSod_oracle : (s.setSod v).oracle = s.oracle := rfl
@[simp] theorem State.setSod_boundary : (s.setSod v).boundary = s.boundary := rfl
@[simp] theorem State.setSod_draws : (s.setSod v).draws = s.draws := rfl

end

section
variable (s : State) (v : Bool)

@[simp] theorem State.setHalted_a : (s.setHalted v).a = s.a := rfl
@[simp] theorem State.setHalted_b : (s.setHalted v).b = s.b := rfl
@[simp] theorem State.setHalted_c : (s.setHalted v).c = s.c := rfl
@[simp] theorem State.setHalted_d : (s.setHalted v).d = s.d := rfl
@[simp] theorem State.setHalted_e : (s.setHalted v).e = s.e := rfl
@[simp] theorem State.setHalted_h : (s.setHalted v).h = s.h := rfl
@[simp] theorem State.setHalted_l : (s.setHalted v).l = s.l := rfl
@[simp] theorem State.setHalted_pc : (s.setHalted v).pc = s.pc := rfl
@[simp] theorem State.setHalted_sp : (s.setHalted v).sp = s.sp := rfl
@[simp] theorem State.setHalted_flags : (s.setHalted v).flags = s.flags := rfl
@[simp] theorem State.setHalted_ie : (s.setHalted v).ie = s.ie := rfl
@[simp] theorem State.setHalted_m75 : (s.setHalted v).m75 = s.m75 := rfl
@[simp] theorem State.setHalted_m65 : (s.setHalted v).m65 = s.m65 := rfl
@[simp] theorem State.setHalted_m55 : (s.setHalted v).m55 = s.m55 := rfl
@[simp] theorem State.setHalted_i75 : (s.setHalted v).i75 = s.i75 := rfl
@[simp] theorem State.setHalted_trapl : (s.setHalted v).trapl = s.trapl := rfl
@[simp] theorem State.setHalted_sod : (s.setHalted v).sod = s.sod := rfl
@[simp] theorem State.setHalted_halted : (s.setHalted v).halted = v := rfl
@[simp] theorem State.setHalted_eihold : (s.setHalted v).eihold = s.eihold := rfl
@[simp] theorem State.setHalted_mem : (s.setHalted v).mem = s.mem := rfl
@[simp] theorem State.setHalted_cfg : (s.setHalted v).cfg = s.cfg := rfl
@[simp] theorem State.setHalted_oracle : (s.setHalted v).oracle = s.oracle := rfl
@[simp] theorem State.setHalted_boundary : (s.setHalted v).boundary = s.boundary := rfl
@[simp] theorem State.setHalted_draws : (s.setHalted v).draws = s.draws := rfl

end

section
variable (s : State) (v : Bool)

@[simp] theorem State.setEihold_a : (s.setEihold v).a = s.a := rfl
@[simp] theorem State.setEihold_b : (s.setEihold v).b = s.b := rfl
@[simp] theorem State.setEihold_c : (s.setEihold v).c = s.c := rfl
@[simp] theorem State.setEihold_d : (s.setEihold v).d = s.d := rfl
@[simp] theorem State.setEihold_e : (s.setEihold v).e = s.e := rfl
@[simp] theorem State.setEihold_h : (s.setEihold v).h = s.h := rfl
@[simp] theorem State.setEihold_l : (s.setEihold v).l = s.l := rfl
@[simp] theorem State.setEihold_pc : (s.setEihold v).pc = s.pc := rfl
@[simp] theorem State.setEihold_sp : (s.setEihold v).sp = s.sp := rfl
@[simp] theorem State.setEihold_flags : (s.setEihold v).flags = s.flags := rfl
@[simp] theorem State.setEihold_ie : (s.setEihold v).ie = s.ie := rfl
@[simp] theorem State.setEihold_m75 : (s.setEihold v).m75 = s.m75 := rfl
@[simp] theorem State.setEihold_m65 : (s.setEihold v).m65 = s.m65 := rfl
@[simp] theorem State.setEihold_m55 : (s.setEihold v).m55 = s.m55 := rfl
@[simp] theorem State.setEihold_i75 : (s.setEihold v).i75 = s.i75 := rfl
@[simp] theorem State.setEihold_trapl : (s.setEihold v).trapl = s.trapl := rfl
@[simp] theorem State.setEihold_sod : (s.setEihold v).sod = s.sod := rfl
@[simp] theorem State.setEihold_halted : (s.setEihold v).halted = s.halted := rfl
@[simp] theorem State.setEihold_eihold : (s.setEihold v).eihold = v := rfl
@[simp] theorem State.setEihold_mem : (s.setEihold v).mem = s.mem := rfl
@[simp] theorem State.setEihold_cfg : (s.setEihold v).cfg = s.cfg := rfl
@[simp] theorem State.setEihold_oracle : (s.setEihold v).oracle = s.oracle := rfl
@[simp] theorem State.setEihold_boundary : (s.setEihold v).boundary = s.boundary := rfl
@[simp] theorem State.setEihold_draws : (s.setEihold v).draws = s.draws := rfl

end

section
variable (s : State) (m : Memory)

@[simp] theorem State.setMem_a : (s.setMem m).a = s.a := rfl
@[simp] theorem State.setMem_b : (s.setMem m).b = s.b := rfl
@[simp] theorem State.setMem_c : (s.setMem m).c = s.c := rfl
@[simp] theorem State.setMem_d : (s.setMem m).d = s.d := rfl
@[simp] theorem State.setMem_e : (s.setMem m).e = s.e := rfl
@[simp] theorem State.setMem_h : (s.setMem m).h = s.h := rfl
@[simp] theorem State.setMem_l : (s.setMem m).l = s.l := rfl
@[simp] theorem State.setMem_pc : (s.setMem m).pc = s.pc := rfl
@[simp] theorem State.setMem_sp : (s.setMem m).sp = s.sp := rfl
@[simp] theorem State.setMem_flags : (s.setMem m).flags = s.flags := rfl
@[simp] theorem State.setMem_ie : (s.setMem m).ie = s.ie := rfl
@[simp] theorem State.setMem_m75 : (s.setMem m).m75 = s.m75 := rfl
@[simp] theorem State.setMem_m65 : (s.setMem m).m65 = s.m65 := rfl
@[simp] theorem State.setMem_m55 : (s.setMem m).m55 = s.m55 := rfl
@[simp] theorem State.setMem_i75 : (s.setMem m).i75 = s.i75 := rfl
@[simp] theorem State.setMem_trapl : (s.setMem m).trapl = s.trapl := rfl
@[simp] theorem State.setMem_sod : (s.setMem m).sod = s.sod := rfl
@[simp] theorem State.setMem_halted : (s.setMem m).halted = s.halted := rfl
@[simp] theorem State.setMem_eihold : (s.setMem m).eihold = s.eihold := rfl
@[simp] theorem State.setMem_mem : (s.setMem m).mem = m := rfl
@[simp] theorem State.setMem_cfg : (s.setMem m).cfg = s.cfg := rfl
@[simp] theorem State.setMem_oracle : (s.setMem m).oracle = s.oracle := rfl
@[simp] theorem State.setMem_boundary : (s.setMem m).boundary = s.boundary := rfl
@[simp] theorem State.setMem_draws : (s.setMem m).draws = s.draws := rfl

end

section
variable (s : State) (n : Nat)

@[simp] theorem State.setBoundary_a : (s.setBoundary n).a = s.a := rfl
@[simp] theorem State.setBoundary_b : (s.setBoundary n).b = s.b := rfl
@[simp] theorem State.setBoundary_c : (s.setBoundary n).c = s.c := rfl
@[simp] theorem State.setBoundary_d : (s.setBoundary n).d = s.d := rfl
@[simp] theorem State.setBoundary_e : (s.setBoundary n).e = s.e := rfl
@[simp] theorem State.setBoundary_h : (s.setBoundary n).h = s.h := rfl
@[simp] theorem State.setBoundary_l : (s.setBoundary n).l = s.l := rfl
@[simp] theorem State.setBoundary_pc : (s.setBoundary n).pc = s.pc := rfl
@[simp] theorem State.setBoundary_sp : (s.setBoundary n).sp = s.sp := rfl
@[simp] theorem State.setBoundary_flags : (s.setBoundary n).flags = s.flags := rfl
@[simp] theorem State.setBoundary_ie : (s.setBoundary n).ie = s.ie := rfl
@[simp] theorem State.setBoundary_m75 : (s.setBoundary n).m75 = s.m75 := rfl
@[simp] theorem State.setBoundary_m65 : (s.setBoundary n).m65 = s.m65 := rfl
@[simp] theorem State.setBoundary_m55 : (s.setBoundary n).m55 = s.m55 := rfl
@[simp] theorem State.setBoundary_i75 : (s.setBoundary n).i75 = s.i75 := rfl
@[simp] theorem State.setBoundary_trapl : (s.setBoundary n).trapl = s.trapl := rfl
@[simp] theorem State.setBoundary_sod : (s.setBoundary n).sod = s.sod := rfl
@[simp] theorem State.setBoundary_halted : (s.setBoundary n).halted = s.halted := rfl
@[simp] theorem State.setBoundary_eihold : (s.setBoundary n).eihold = s.eihold := rfl
@[simp] theorem State.setBoundary_mem : (s.setBoundary n).mem = s.mem := rfl
@[simp] theorem State.setBoundary_cfg : (s.setBoundary n).cfg = s.cfg := rfl
@[simp] theorem State.setBoundary_oracle : (s.setBoundary n).oracle = s.oracle := rfl
@[simp] theorem State.setBoundary_boundary : (s.setBoundary n).boundary = n := rfl
@[simp] theorem State.setBoundary_draws : (s.setBoundary n).draws = s.draws := rfl

end

end Sys2Proof.Machine
end

