-- ==== Sys2Proof/Laws/Ops.lean ====
section
/-! SUPPORT. For each shared operation one lemma that says once everything it can do. -/

namespace Sys2Proof.Machine

/-! ## The byte at an address -/

/-- The kind of an address depends on the configuration alone. -/
theorem State.kindAt_congr {s t : State} (h : t.cfg = s.cfg) (a : Addr) : t.kindAt a = s.kindAt a := by
  unfold State.kindAt; rw [h]

theorem State.byteAt_congr {s t : State} (h : t.mem = s.mem) (a : Addr) : t.byteAt a = s.byteAt a := by
  unfold State.byteAt; rw [h]

/-- Two addresses are one cell only if they are the same address. -/
theorem toNat_ne_of_ne {a b : Addr} (h : a ≠ b) : a.toNat ≠ b.toNat :=
  fun he => h (BitVec.eq_of_toNat_eq he)

theorem byteAt_setMem_write_of_ne (s : State) {a b : Addr} (v : Byte) (h : a ≠ b) :
    (s.setMem (Memory.write s.mem a.toNat v)).byteAt b = s.byteAt b :=
  Memory.read_write_of_ne v (toNat_ne_of_ne h) s.mem

theorem byteAt_setMem_write_self (s : State) (a : Addr) (v : Byte) (h : Memory.wf s.mem = true) :
    (s.setMem (Memory.write s.mem a.toNat v)).byteAt a = v :=
  Memory.read_write_self v h

/-! ## Memory accesses -/

/-- A read gives the byte, or there is no memory there. -/
theorem memRead_cases (s : State) (a : Addr) :
    (s.kindAt a ≠ .absent ∧ memRead s a = .ok (s.byteAt a)) ∨
      (s.kindAt a = .absent ∧ memRead s a = .error (.absentMemory a)) := by
  unfold memRead
  cases s.kindAt a <;> simp

theorem memRead_of_present {s : State} {a : Addr} (h : s.kindAt a ≠ .absent) : memRead s a = .ok (s.byteAt a) := by
  obtain h' | h' := memRead_cases s a
  · exact h'.2
  · exact absurd h'.1 h

theorem memRead_of_absent {s : State} {a : Addr} (h : s.kindAt a = .absent) :
    memRead s a = .error (.absentMemory a) := by
  obtain h' | h' := memRead_cases s a
  · exact absurd h h'.1
  · exact h'.2

/-- What a write leaves: the state with new memory that differs at that address at most, and there only in RAM. -/
structure Stored (s : State) (a : Addr) (v : Byte) (t : State) : Prop where
  frame  : t = s.setMem t.mem
  other  : ∀ b, b ≠ a → t.byteAt b = s.byteAt b
  kept   : s.kindAt a ≠ .ram → t.mem = s.mem
  stored : s.kindAt a = .ram → Memory.wf s.mem = true → t.byteAt a = v
  wf     : Memory.wf s.mem = true → Memory.wf t.mem = true

/-- A write stores, is ignored by ROM, or there is no memory there. -/
theorem memWrite_cases (s : State) (a : Addr) (v : Byte) :
    (s.kindAt a ≠ .absent ∧ ∃ t, memWrite s a v = .ok t ∧ Stored s a v t) ∨
      (s.kindAt a = .absent ∧ memWrite s a v = .error (.absentMemory a)) := by
  unfold memWrite
  cases hk : s.kindAt a with
  | absent => exact .inr ⟨rfl, rfl⟩
  | ram =>
    refine .inl ⟨by simp, _, rfl, ⟨rfl, ?_, ?_, ?_, ?_⟩⟩
    · exact fun b hb => byteAt_setMem_write_of_ne s v hb.symm
    · exact fun h => absurd hk h
    · exact fun _ hwf => byteAt_setMem_write_self s a v hwf
    · exact fun hwf => Memory.wf_write v a.isLt hwf
  | rom =>
    refine .inl ⟨by simp, s, rfl, ⟨rfl, fun _ _ => rfl, fun _ => rfl, ?_, id⟩⟩
    intro h; rw [hk] at h; simp at h

/-! ## The stack -/

/-- The two bytes of a push are different cells. -/
theorem push_addrs_ne (p : Addr) : p - 1 ≠ p - 2 := by bv_omega

/-- What a push leaves: memory new at the two stack bytes at most, SP lower by two. -/
structure Pushed (s : State) (v : Addr) (t : State) : Prop where
  frame : t = { s with sp := s.sp - 2, mem := t.mem }
  hi    : Memory.wf s.mem = true →
    t.byteAt (s.sp - 1) = (if s.kindAt (s.sp - 1) = .ram then hiByte v else s.byteAt (s.sp - 1))
  lo    : Memory.wf s.mem = true →
    t.byteAt (s.sp - 2) = (if s.kindAt (s.sp - 2) = .ram then loByte v else s.byteAt (s.sp - 2))
  other : ∀ a, a ≠ s.sp - 1 → a ≠ s.sp - 2 → t.byteAt a = s.byteAt a
  rom   : ∀ a, s.kindAt a ≠ .ram → t.byteAt a = s.byteAt a
  wf    : Memory.wf s.mem = true → Memory.wf t.mem = true

/-- A push happens, or the first of its two bytes without memory is named. -/
theorem push16_cases (s : State) (v : Addr) :
    (s.kindAt (s.sp - 1) ≠ .absent ∧ s.kindAt (s.sp - 2) ≠ .absent ∧ ∃ t, push16 s v = .ok t ∧ Pushed s v t) ∨
      (s.kindAt (s.sp - 1) = .absent ∧ push16 s v = .error (.absentMemory (s.sp - 1))) ∨
      (s.kindAt (s.sp - 1) ≠ .absent ∧ s.kindAt (s.sp - 2) = .absent ∧
        push16 s v = .error (.absentMemory (s.sp - 2))) := by
  unfold push16 State.pushHiAddr State.pushLoAddr
  obtain ⟨h1, t1, e1, W1⟩ | ⟨h1, e1⟩ := memWrite_cases s (s.sp - 1) (hiByte v)
  · have hc : t1.cfg = s.cfg := by rw [W1.frame]; rfl
    have hkind : ∀ a, t1.kindAt a = s.kindAt a := State.kindAt_congr hc
    have hsp : t1.sp = s.sp := by rw [W1.frame]; rfl
    obtain ⟨h2, t2, e2, W2⟩ | ⟨h2, e2⟩ := memWrite_cases t1 (s.sp - 2) (loByte v)
    · rw [hkind] at h2
      refine .inl ⟨h1, h2, t2.setSp (s.sp - 2), ?_, ?_⟩
      · simp only [e1, e2]
      · have hne := push_addrs_ne s.sp
        have keep1 : s.kindAt (s.sp - 1) ≠ .ram → ∀ a, t1.byteAt a = s.byteAt a := fun h a =>
          State.byteAt_congr (W1.kept h) a
        have keep2 : s.kindAt (s.sp - 2) ≠ .ram → ∀ a, t2.byteAt a = t1.byteAt a := fun h a =>
          State.byteAt_congr (W2.kept (by rwa [hkind])) a
        refine ⟨?_, ?_, ?_, ?_, ?_, fun h => W2.wf (W1.wf h)⟩
        · rw [W2.frame, W1.frame]; rfl
        · intro hwf
          show t2.byteAt (s.sp - 1) = _
          rw [W2.other _ hne]
          split
          next hr => exact W1.stored hr hwf
          next hr => exact keep1 hr _
        · intro hwf
          show t2.byteAt (s.sp - 2) = _
          split
          next hr => exact W2.stored (by rwa [hkind]) (W1.wf hwf)
          next hr => rw [keep2 hr, W1.other _ hne.symm]
        · intro a ha hb
          show t2.byteAt a = _
          rw [W2.other a hb, W1.other a ha]
        · intro a ha
          show t2.byteAt a = _
          have e2' : t2.byteAt a = t1.byteAt a := by
            by_cases hb : a = s.sp - 2
            · subst hb; exact keep2 ha _
            · exact W2.other a hb
          have e1' : t1.byteAt a = s.byteAt a := by
            by_cases hb : a = s.sp - 1
            · subst hb; exact keep1 ha _
            · exact W1.other a hb
          rw [e2', e1']
    · rw [hkind] at h2
      exact .inr (.inr ⟨h1, h2, by simp only [e1, e2]⟩)
  · exact .inr (.inl ⟨h1, by simp only [e1]⟩)

/-- A pop reads two bytes and moves SP, or the first of them without memory is named. -/
theorem pop16_cases (s : State) :
    (s.kindAt s.sp ≠ .absent ∧ s.kindAt (s.sp + 1) ≠ .absent ∧
        pop16 s = .ok (ofBytes (s.byteAt s.sp) (s.byteAt (s.sp + 1)), s.setSp (s.sp + 2))) ∨
      (s.kindAt s.sp = .absent ∧ pop16 s = .error (.absentMemory s.sp)) ∨
      (s.kindAt s.sp ≠ .absent ∧ s.kindAt (s.sp + 1) = .absent ∧ pop16 s = .error (.absentMemory (s.sp + 1))) := by
  unfold pop16
  obtain ⟨h1, e1⟩ | ⟨h1, e1⟩ := memRead_cases s s.sp
  · obtain ⟨h2, e2⟩ | ⟨h2, e2⟩ := memRead_cases s (s.sp + 1)
    · exact .inl ⟨h1, h2, by simp only [e1, e2]⟩
    · exact .inr (.inr ⟨h1, h2, by simp only [e1, e2]⟩)
  · exact .inr (.inl ⟨h1, by simp only [e1]⟩)

/-! ## Transfers -/

/-- A call pushes PC and goes to the target, or is refused where the push is. -/
theorem callTo_cases (target : Addr) (s : State) :
    (s.kindAt (s.sp - 1) ≠ .absent ∧ s.kindAt (s.sp - 2) ≠ .absent ∧
        ∃ t, callTo target s = .ok (t.setPc target) ∧ Pushed s s.pc t) ∨
      (s.kindAt (s.sp - 1) = .absent ∧ callTo target s = .error (.absentMemory (s.sp - 1))) ∨
      (s.kindAt (s.sp - 1) ≠ .absent ∧ s.kindAt (s.sp - 2) = .absent ∧
        callTo target s = .error (.absentMemory (s.sp - 2))) := by
  unfold callTo
  obtain ⟨h1, h2, t, e, P⟩ | ⟨h1, e⟩ | ⟨h1, h2, e⟩ := push16_cases s s.pc
  · exact .inl ⟨h1, h2, t, by rw [e], P⟩
  · exact .inr (.inl ⟨h1, by rw [e]⟩)
  · exact .inr (.inr ⟨h1, h2, by rw [e]⟩)

/-- A return pops PC, or is refused where the pop is. -/
theorem returnFrom_cases (s : State) :
    (s.kindAt s.sp ≠ .absent ∧ s.kindAt (s.sp + 1) ≠ .absent ∧
        returnFrom s = .ok ((s.setSp (s.sp + 2)).setPc (ofBytes (s.byteAt s.sp) (s.byteAt (s.sp + 1))))) ∨
      (s.kindAt s.sp = .absent ∧ returnFrom s = .error (.absentMemory s.sp)) ∨
      (s.kindAt s.sp ≠ .absent ∧ s.kindAt (s.sp + 1) = .absent ∧ returnFrom s = .error (.absentMemory (s.sp + 1))) := by
  unfold returnFrom
  obtain ⟨h1, h2, e⟩ | ⟨h1, e⟩ | ⟨h1, h2, e⟩ := pop16_cases s
  · exact .inl ⟨h1, h2, by rw [e]⟩
  · exact .inr (.inl ⟨h1, by rw [e]⟩)
  · exact .inr (.inr ⟨h1, h2, by rw [e]⟩)

/-- An outcome that goes on comes from a state. -/
theorem settle_eq_next {x : Except Refusal State} {t : State} : settle x = .next t ↔ x = .ok t := by
  cases x <;> simp [settle]

theorem settle_eq_refused {x : Except Refusal State} {r : Refusal} : settle x = .refused r ↔ x = .error r := by
  cases x <;> simp [settle]

/-! ## Interrupts -/

/-- The source taken can be taken. -/
theorem canTake_of_firstSource {hold : Bool} {s : State} {src : Source} (h : firstSource hold s = some src) :
    canTake hold s src = true := List.find?_some h

/-- No source is taken only where none can be. -/
theorem firstSource_eq_none {hold : Bool} {s : State} :
    firstSource hold s = none ↔ ∀ src, canTake hold s src = false := by
  unfold firstSource
  rw [List.find?_eq_none]
  constructor
  · intro h src
    have := h src (by cases src <;> simp)
    simpa using this
  · intro h src _
    simp [h src]

/-- The addresses of the four internal restarts and of an inserted RST (R201). -/
theorem interruptEntry_cases (src : Source) (s : State) :
    (∃ target, interruptEntry src s = callTo target (acknowledge src s) ∧
        ((src = .trap ∧ target = 0x0024) ∨ (src = .rst75 ∧ target = 0x003C) ∨ (src = .rst65 ∧ target = 0x0034) ∨
          (src = .rst55 ∧ target = 0x002C) ∨
          (src = .intr ∧ ∃ n, insertedRestart s.env.inserted = some n ∧ target = restartAddr n))) ∨
      (src = .intr ∧ insertedRestart s.env.inserted = none ∧
        interruptEntry src s = .error (.insertedOpcode s.env.inserted)) := by
  cases src with
  | trap => exact .inl ⟨_, rfl, by simp⟩
  | rst75 => exact .inl ⟨_, rfl, by simp⟩
  | rst65 => exact .inl ⟨_, rfl, by simp⟩
  | rst55 => exact .inl ⟨_, rfl, by simp⟩
  | intr =>
    unfold interruptEntry
    cases h : insertedRestart s.env.inserted with
    | none => exact .inr ⟨rfl, rfl, rfl⟩
    | some n => exact .inl ⟨_, rfl, by simp⟩

/-- What an acknowledge leaves (R208): IE, EIHOLD and HALTED reset, the taken source's latch reset, nothing else. -/
theorem acknowledge_eq (src : Source) (s : State) :
    acknowledge src s =
      { s with
        ie := false, eihold := false, halted := false,
        trapl := s.trapl && decide (src ≠ .trap), i75 := s.i75 && decide (src ≠ .rst75) } := by
  cases src <;> cases s <;> simp [acknowledge, State.setIe, State.setEihold, State.setHalted, State.setTrapl,
    State.setI75]

/-- What absorbing the events leaves (R203): the two latches, nothing else. -/
theorem absorb_eq (s : State) :
    absorb s = { s with trapl := s.trapl || s.env.trapEvent, i75 := s.i75 || s.env.rst75Edge } := rfl

/-- What `Env` shows depends on the oracle alone. -/
theorem State.sample_congr {s t : State} (h : t.oracle = s.oracle) (n : Nat) : t.sample n = s.sample n := by
  unfold State.sample; rw [h]

/-- What `Env` shows at a boundary: a listed sample, the steady one, or a free one. -/
theorem State.sample_cases (s : State) (n : Nat) :
    (∃ e, s.oracle.listed[n]? = some e ∧ s.sample n = e) ∨
      (s.oracle.listed[n]? = none ∧ ∃ e, s.oracle.tail = .steady e ∧ s.sample n = e) ∨
      (s.oracle.listed[n]? = none ∧ ∃ k, s.oracle.tail = .free k ∧ s.sample n = Config.freeEnv k n) := by
  unfold State.sample
  cases h : s.oracle.listed[n]? with
  | some e => exact .inl ⟨e, rfl, rfl⟩
  | none =>
    cases ht : s.oracle.tail with
    | steady e => exact .inr (.inl ⟨rfl, e, rfl, rfl⟩)
    | free k => exact .inr (.inr ⟨rfl, k, rfl, rfl⟩)

/-- At the next boundary `Env` shows the next sample. -/
theorem State.env_passSample (s : State) : s.passSample.env = s.sample (s.boundary + 1) := rfl

@[simp] theorem State.env_setEihold (s : State) (v : Bool) : (s.setEihold v).env = s.env := rfl
@[simp] theorem State.env_absorb (s : State) : (absorb s).env = s.env := rfl

/-! ## The fetch -/

/-- A fetch reads the opcode and the operand bytes the opcode asks for, or names the first of these without memory. -/
theorem fetch_cases (s : State) :
    (∃ b2 b3, s.kindAt s.pc ≠ .absent ∧
        fetch s = .ok (decodeBytes (s.byteAt s.pc) b2 b3, fetchLength (s.byteAt s.pc)) ∧
        (2 ≤ fetchLength (s.byteAt s.pc) → s.kindAt (s.pc + 1) ≠ .absent ∧ b2 = s.byteAt (s.pc + 1)) ∧
        (3 ≤ fetchLength (s.byteAt s.pc) → s.kindAt (s.pc + 2) ≠ .absent ∧ b3 = s.byteAt (s.pc + 2))) ∨
      (∃ a, s.kindAt a = .absent ∧ fetch s = .error (.absentMemory a) ∧
        (a = s.pc ∨
          s.kindAt s.pc ≠ .absent ∧
            (a = s.pc + 1 ∧ 2 ≤ fetchLength (s.byteAt s.pc) ∨
              a = s.pc + 2 ∧ s.kindAt (s.pc + 1) ≠ .absent ∧ 3 ≤ fetchLength (s.byteAt s.pc)))) := by
  unfold fetch fetchOperand
  obtain ⟨h1, e1⟩ | ⟨h1, e1⟩ := memRead_cases s s.pc
  · rw [e1]
    by_cases w2 : 2 ≤ fetchLength (s.byteAt s.pc)
    · obtain ⟨h2, e2⟩ | ⟨h2, e2⟩ := memRead_cases s (s.pc + 1)
      · by_cases w3 : 3 ≤ fetchLength (s.byteAt s.pc)
        · obtain ⟨h3, e3⟩ | ⟨h3, e3⟩ := memRead_cases s (s.pc + 2)
          · exact .inl ⟨_, _, h1, by simp only [w2, w3, e2, e3, decide_true, if_true], fun _ => ⟨h2, rfl⟩,
              fun _ => ⟨h3, rfl⟩⟩
          · exact .inr ⟨_, h3, by simp only [w2, w3, e2, e3, decide_true, if_true], .inr ⟨h1, .inr ⟨rfl, h2, w3⟩⟩⟩
        · exact .inl ⟨_, 0, h1, by simp only [w2, w3, e2, decide_true, decide_false, if_true, Bool.false_eq_true,
            if_false], fun _ => ⟨h2, rfl⟩, fun h => absurd h w3⟩
      · exact .inr ⟨_, h2, by simp only [w2, e2, decide_true, if_true], .inr ⟨h1, .inl ⟨rfl, w2⟩⟩⟩
    · exact .inl ⟨0, 0, h1, by simp [w2, show ¬3 ≤ fetchLength (s.byteAt s.pc) by omega], fun h => absurd h w2,
        fun h => by omega⟩
  · exact .inr ⟨_, h1, by simp [e1], .inl rfl⟩

/-! ## The step -/

/-- The ways a step can go (00_scope.md R9): a reset, an interrupt, staying halted, or an instruction. -/
theorem step_cases (s : State) :
    (s.env.reset = true ∧ step s = .next (resetSequence (absorb s)).passSample) ∨
      (s.env.reset = false ∧ ∃ src, firstSource s.eihold ((absorb s).setEihold false) = some src ∧
        step s = afterBoundary (settle (interruptEntry src ((absorb s).setEihold false)))) ∨
      (s.env.reset = false ∧ firstSource s.eihold ((absorb s).setEihold false) = none ∧ s.halted = true ∧
        step s = .next ((absorb s).setEihold false).passSample) ∨
      (s.env.reset = false ∧ firstSource s.eihold ((absorb s).setEihold false) = none ∧ s.halted = false ∧
        step s = afterBoundary (executeNext ((absorb s).setEihold false))) := by
  have hh : (absorb s).halted = s.halted := rfl
  have he : (absorb s).eihold = s.eihold := rfl
  unfold step stepAtBoundary runBoundary
  rw [hh, he]
  cases hr : s.env.reset
  · cases hf : firstSource s.eihold ((absorb s).setEihold false) with
    | some src => exact .inr (.inl ⟨rfl, src, rfl, rfl⟩)
    | none =>
      cases hl : s.halted
      · exact .inr (.inr (.inr ⟨rfl, rfl, rfl, rfl⟩))
      · exact .inr (.inr (.inl ⟨rfl, rfl, rfl, rfl⟩))
  · exact .inl ⟨rfl, rfl⟩

/-- The outcome after a boundary goes on exactly where the boundary's does. -/
theorem afterBoundary_eq_next {o : Host.Outcome State Fault Refusal} {t : State} :
    afterBoundary o = .next t ↔ ∃ u, o = .next u ∧ t = u.passSample := by
  cases o with
  | next u => simp [afterBoundary, eq_comm]
  | fault f => exact nomatch f
  | refused r => simp [afterBoundary]

theorem afterBoundary_eq_refused {o : Host.Outcome State Fault Refusal} {r : Refusal} :
    afterBoundary o = .refused r ↔ o = .refused r := by
  cases o with
  | next u => simp [afterBoundary]
  | fault f => exact nomatch f
  | refused r => simp [afterBoundary]

end Sys2Proof.Machine
end

