-- ==== Sys2Proof/Laws/Forms.lean ====
section
/-! SUPPORT. For the shared forms the meanings are made of, one lemma with everything each can do. -/

namespace Sys2Proof.Machine

/-- Reading the second operand gives a register, the byte at H : L, or there is no memory there. -/
theorem readOperand_cases (x : Operand) (s : State) :
    (∃ r, x = .reg r ∧ readOperand x s = .ok (s.reg r)) ∨
      (x = .mem ∧ s.kindAt s.hl ≠ .absent ∧ readOperand x s = .ok (s.byteAt s.hl)) ∨
      (x = .mem ∧ s.kindAt s.hl = .absent ∧ readOperand x s = .error (.absentMemory s.hl)) := by
  cases x with
  | reg r => exact .inl ⟨r, rfl, rfl⟩
  | mem =>
    obtain ⟨h, e⟩ | ⟨h, e⟩ := memRead_cases s s.hl
    · exact .inr (.inl ⟨rfl, h, e⟩)
    · exact .inr (.inr ⟨rfl, h, e⟩)

/-- An instruction with a second operand acts on its value, or is refused where M has no memory. -/
theorem withOperand_cases (x : Operand) (s : State) (act : Byte → State) :
    (∃ v, readOperand x s = .ok v ∧ withOperand x s act = .next (act v)) ∨
      (x = .mem ∧ s.kindAt s.hl = .absent ∧ withOperand x s act = .refused (.absentMemory s.hl)) := by
  unfold withOperand
  obtain ⟨r, _, e⟩ | ⟨_, _, e⟩ | ⟨hx, h, e⟩ := readOperand_cases x s
  · exact .inl ⟨_, e, by rw [e]⟩
  · exact .inl ⟨_, e, by rw [e]⟩
  · exact .inr ⟨hx, h, by rw [e]⟩

/-- A logical result changes A and the flags alone. -/
theorem setLogicResult_eq (result : Byte) (ac : Bool) (s : State) :
    setLogicResult result ac s = { s with a := result, flags := logicFlags result ac } := rfl

/-- A rotate changes A and CY alone. -/
theorem setRotated_eq (result : Byte) (carry : Bool) (s : State) :
    setRotated result carry s = { s with a := result, flags := { s.flags with cy := carry } } := rfl

/-- A conditional jump always goes on. -/
theorem jumpIf_cases (k : Cond) (addr : Addr) (s : State) :
    (k.holds s.flags = true ∧ jumpIf k addr s = .next (s.setPc addr)) ∨
      (k.holds s.flags = false ∧ jumpIf k addr s = .next s) := by
  unfold jumpIf
  cases k.holds s.flags <;> simp

/-- A conditional call is the call, or nothing. -/
theorem callIf_cases (k : Cond) (addr : Addr) (s : State) :
    (k.holds s.flags = true ∧ callIf k addr s = settle (callTo addr s)) ∨
      (k.holds s.flags = false ∧ callIf k addr s = .next s) := by
  unfold callIf
  cases k.holds s.flags <;> simp

/-- A conditional return is the return, or nothing. -/
theorem returnIf_cases (k : Cond) (s : State) :
    (k.holds s.flags = true ∧ returnIf k s = settle (returnFrom s)) ∨
      (k.holds s.flags = false ∧ returnIf k s = .next s) := by
  unfold returnIf
  cases k.holds s.flags <;> simp

/-- Opposite conditions never agree. -/
theorem Cond.holds_opposite (f : Flags) :
    (Cond.nz.holds f = !Cond.z.holds f) ∧ (Cond.nc.holds f = !Cond.c.holds f) ∧ (Cond.po.holds f = !Cond.pe.holds f) ∧
      (Cond.p.holds f = !Cond.m.holds f) := by
  obtain ⟨s, z, ac, p, cy⟩ := f
  cases s <;> cases z <;> cases p <;> cases cy <;> exact ⟨rfl, rfl, rfl, rfl⟩

/-- An inserted byte is an RST exactly if it is `11nnn111`. -/
theorem insertedRestart_eq_some {b : Byte} {n : BitVec 3} :
    insertedRestart b = some n ↔ b = 0b11#2 ++ n ++ 0b111#3 := by
  have key : ∀ (b : Byte) (n : BitVec 3), insertedRestart b = some n ↔ b = 0b11#2 ++ n ++ 0b111#3 := by
    decide +kernel
  exact key b n

/-- The restart address is `8 * n`. -/
theorem restartAddr_toNat (n : BitVec 3) : (restartAddr n).toNat = 8 * n.toNat := by
  revert n
  decide

end Sys2Proof.Machine
end

