-- ==== Sys2Proof/Laws/PerInstr.lean ====
section
/-! SUPPORT. One law for each constructor of Instr: its encoding has as many bytes as the decoder reads for its opcode. -/

namespace Sys2Proof.Laws.EncodeLength

/-- A well-formed instruction's bytes are as many as its opcode makes the decoder read (30_encoding.md R83). -/
def Statement (i : Instr) : Prop := i.wf = true → (encode i).length = fetchLength (opcode i)

theorem ana (x : Operand) : Statement (.ana x) := by
  rcases x with ⟨_ | _ | _ | _ | _ | _ | _⟩ | _ <;> exact fun _ => rfl

theorem xra (x : Operand) : Statement (.xra x) := by
  rcases x with ⟨_ | _ | _ | _ | _ | _ | _⟩ | _ <;> exact fun _ => rfl

theorem ora (x : Operand) : Statement (.ora x) := by
  rcases x with ⟨_ | _ | _ | _ | _ | _ | _⟩ | _ <;> exact fun _ => rfl

theorem cmp (x : Operand) : Statement (.cmp x) := by
  rcases x with ⟨_ | _ | _ | _ | _ | _ | _⟩ | _ <;> exact fun _ => rfl

theorem ani (data : Byte) : Statement (.ani data) := fun _ =>
  show 2 = fetchLength 0xE6 by decide

theorem xri (data : Byte) : Statement (.xri data) := fun _ =>
  show 2 = fetchLength 0xEE by decide

theorem ori (data : Byte) : Statement (.ori data) := fun _ =>
  show 2 = fetchLength 0xF6 by decide

theorem cpi (data : Byte) : Statement (.cpi data) := fun _ =>
  show 2 = fetchLength 0xFE by decide

theorem rlc : Statement .rlc := fun _ => rfl

theorem rrc : Statement .rrc := fun _ => rfl

theorem ral : Statement .ral := fun _ => rfl

theorem rar : Statement .rar := fun _ => rfl

theorem cma : Statement .cma := fun _ => rfl

theorem cmc : Statement .cmc := fun _ => rfl

theorem stc : Statement .stc := fun _ => rfl

theorem nop : Statement .nop := fun _ => rfl

theorem hlt : Statement .hlt := fun _ => rfl

theorem di : Statement .di := fun _ => rfl

theorem ei : Statement .ei := fun _ => rfl

theorem rim : Statement .rim := fun _ => rfl

theorem sim : Statement .sim := fun _ => rfl

theorem jmp (addr : Addr) : Statement (.jmp addr) := fun _ =>
  show 3 = fetchLength 0xC3 by decide

theorem jnz (addr : Addr) : Statement (.jnz addr) := fun _ =>
  show 3 = fetchLength 0xC2 by decide

theorem jz (addr : Addr) : Statement (.jz addr) := fun _ =>
  show 3 = fetchLength 0xCA by decide

theorem jnc (addr : Addr) : Statement (.jnc addr) := fun _ =>
  show 3 = fetchLength 0xD2 by decide

theorem jc (addr : Addr) : Statement (.jc addr) := fun _ =>
  show 3 = fetchLength 0xDA by decide

theorem jpo (addr : Addr) : Statement (.jpo addr) := fun _ =>
  show 3 = fetchLength 0xE2 by decide

theorem jpe (addr : Addr) : Statement (.jpe addr) := fun _ =>
  show 3 = fetchLength 0xEA by decide

theorem jp (addr : Addr) : Statement (.jp addr) := fun _ =>
  show 3 = fetchLength 0xF2 by decide

theorem jm (addr : Addr) : Statement (.jm addr) := fun _ =>
  show 3 = fetchLength 0xFA by decide

theorem call (addr : Addr) : Statement (.call addr) := fun _ =>
  show 3 = fetchLength 0xCD by decide

theorem cnz (addr : Addr) : Statement (.cnz addr) := fun _ =>
  show 3 = fetchLength 0xC4 by decide

theorem cz (addr : Addr) : Statement (.cz addr) := fun _ =>
  show 3 = fetchLength 0xCC by decide

theorem cnc (addr : Addr) : Statement (.cnc addr) := fun _ =>
  show 3 = fetchLength 0xD4 by decide

theorem cc (addr : Addr) : Statement (.cc addr) := fun _ =>
  show 3 = fetchLength 0xDC by decide

theorem cpo (addr : Addr) : Statement (.cpo addr) := fun _ =>
  show 3 = fetchLength 0xE4 by decide

theorem cpe (addr : Addr) : Statement (.cpe addr) := fun _ =>
  show 3 = fetchLength 0xEC by decide

theorem cp (addr : Addr) : Statement (.cp addr) := fun _ =>
  show 3 = fetchLength 0xF4 by decide

theorem cm (addr : Addr) : Statement (.cm addr) := fun _ =>
  show 3 = fetchLength 0xFC by decide

theorem ret : Statement .ret := fun _ => rfl

theorem rnz : Statement .rnz := fun _ => rfl

theorem rz : Statement .rz := fun _ => rfl

theorem rnc : Statement .rnc := fun _ => rfl

theorem rc : Statement .rc := fun _ => rfl

theorem rpo : Statement .rpo := fun _ => rfl

theorem rpe : Statement .rpe := fun _ => rfl

theorem rp : Statement .rp := fun _ => rfl

theorem rm : Statement .rm := fun _ => rfl

theorem pchl : Statement .pchl := fun _ => rfl

theorem rst (n : BitVec 3) : Statement (.rst n) := fun _ => by
  revert n
  decide

theorem lxi (pair : RegPair) : Statement (.lxi pair) := by
  cases pair <;> exact fun _ => rfl

theorem stax (pair : RegPair) : Statement (.stax pair) := by
  cases pair <;> exact fun _ => rfl

theorem inx (pair : RegPair) : Statement (.inx pair) := by
  cases pair <;> exact fun _ => rfl

theorem inr (x : Operand) : Statement (.inr x) := by
  rcases x with ⟨_ | _ | _ | _ | _ | _ | _⟩ | _ <;> exact fun _ => rfl

theorem dcr (x : Operand) : Statement (.dcr x) := by
  rcases x with ⟨_ | _ | _ | _ | _ | _ | _⟩ | _ <;> exact fun _ => rfl

theorem mvi (x : Operand) : Statement (.mvi x) := by
  rcases x with ⟨_ | _ | _ | _ | _ | _ | _⟩ | _ <;> exact fun _ => rfl

theorem dad (pair : RegPair) : Statement (.dad pair) := by
  cases pair <;> exact fun _ => rfl

theorem ldax (pair : RegPair) : Statement (.ldax pair) := by
  cases pair <;> exact fun _ => rfl

theorem dcx (pair : RegPair) : Statement (.dcx pair) := by
  cases pair <;> exact fun _ => rfl

theorem shld : Statement .shld := fun _ => rfl

theorem daa : Statement .daa := fun _ => rfl

theorem lhld : Statement .lhld := fun _ => rfl

theorem sta : Statement .sta := fun _ => rfl

theorem lda : Statement .lda := fun _ => rfl

theorem mov (dst : Operand) (src : Operand) : Statement (.mov dst src) := by
  rcases dst with ⟨_ | _ | _ | _ | _ | _ | _⟩ | _ <;> rcases src with ⟨_ | _ | _ | _ | _ | _ | _⟩ | _ <;> exact fun _ => rfl

theorem add (x : Operand) : Statement (.add x) := by
  rcases x with ⟨_ | _ | _ | _ | _ | _ | _⟩ | _ <;> exact fun _ => rfl

theorem adc (x : Operand) : Statement (.adc x) := by
  rcases x with ⟨_ | _ | _ | _ | _ | _ | _⟩ | _ <;> exact fun _ => rfl

theorem sub (x : Operand) : Statement (.sub x) := by
  rcases x with ⟨_ | _ | _ | _ | _ | _ | _⟩ | _ <;> exact fun _ => rfl

theorem sbb (x : Operand) : Statement (.sbb x) := by
  rcases x with ⟨_ | _ | _ | _ | _ | _ | _⟩ | _ <;> exact fun _ => rfl

theorem pop (pair : StackPair) : Statement (.pop pair) := by
  cases pair <;> exact fun _ => rfl

theorem push (pair : StackPair) : Statement (.push pair) := by
  cases pair <;> exact fun _ => rfl

theorem adi : Statement .adi := fun _ => rfl

theorem aci : Statement .aci := fun _ => rfl

theorem outp : Statement .outp := fun _ => rfl

theorem sui : Statement .sui := fun _ => rfl

theorem inp : Statement .inp := fun _ => rfl

theorem sbi : Statement .sbi := fun _ => rfl

theorem xthl : Statement .xthl := fun _ => rfl

theorem xchg : Statement .xchg := fun _ => rfl

theorem sphl : Statement .sphl := fun _ => rfl

theorem undefined (op : Byte) : Statement (.undefined op) := by
  have key : ∀ op : Byte, undefinedBytes.contains op = true → 1 = fetchLength op := by decide +kernel
  exact key op

end Sys2Proof.Laws.EncodeLength
end

