-- ==== Sys2Proof/Laws/Step.lean ====
section
/-! SUPPORT. The step in each of its four cases, in the terms claims use. -/

namespace Sys2Proof.Machine

/-- The state the check for interrupts finds, field by field. -/
theorem State.atCheck_eq (s : State) :
    s.atCheck =
      { s with trapl := s.trapl || s.env.trapEvent, i75 := s.i75 || s.env.rst75Edge, eihold := false } := rfl

/-- The state in which a source taken at a boundary makes its call, field by field. -/
theorem acknowledge_atCheck (src : Source) (s : State) :
    acknowledge src s.atCheck =
      { s with
        ie := false, eihold := false, halted := false,
        trapl := (s.trapl || s.env.trapEvent) && decide (src ≠ .trap),
        i75 := (s.i75 || s.env.rst75Edge) && decide (src ≠ .rst75) } := by
  rw [acknowledge_eq, State.atCheck_eq]

/-! ## The fields of the state at the check, past the instruction, and at the next sample -/

@[simp] theorem State.atCheck_a (s : State) : s.atCheck.a = s.a := rfl
@[simp] theorem State.atCheck_b (s : State) : s.atCheck.b = s.b := rfl
@[simp] theorem State.atCheck_c (s : State) : s.atCheck.c = s.c := rfl
@[simp] theorem State.atCheck_d (s : State) : s.atCheck.d = s.d := rfl
@[simp] theorem State.atCheck_e (s : State) : s.atCheck.e = s.e := rfl
@[simp] theorem State.atCheck_h (s : State) : s.atCheck.h = s.h := rfl
@[simp] theorem State.atCheck_l (s : State) : s.atCheck.l = s.l := rfl
@[simp] theorem State.atCheck_pc (s : State) : s.atCheck.pc = s.pc := rfl
@[simp] theorem State.atCheck_sp (s : State) : s.atCheck.sp = s.sp := rfl
@[simp] theorem State.atCheck_flags (s : State) : s.atCheck.flags = s.flags := rfl
@[simp] theorem State.atCheck_ie (s : State) : s.atCheck.ie = s.ie := rfl
@[simp] theorem State.atCheck_m75 (s : State) : s.atCheck.m75 = s.m75 := rfl
@[simp] theorem State.atCheck_m65 (s : State) : s.atCheck.m65 = s.m65 := rfl
@[simp] theorem State.atCheck_m55 (s : State) : s.atCheck.m55 = s.m55 := rfl
@[simp] theorem State.atCheck_i75 (s : State) : s.atCheck.i75 = (s.i75 || s.env.rst75Edge) := rfl
@[simp] theorem State.atCheck_trapl (s : State) : s.atCheck.trapl = (s.trapl || s.env.trapEvent) := rfl
@[simp] theorem State.atCheck_sod (s : State) : s.atCheck.sod = s.sod := rfl
@[simp] theorem State.atCheck_halted (s : State) : s.atCheck.halted = s.halted := rfl
@[simp] theorem State.atCheck_eihold (s : State) : s.atCheck.eihold = false := rfl
@[simp] theorem State.atCheck_mem (s : State) : s.atCheck.mem = s.mem := rfl
@[simp] theorem State.atCheck_cfg (s : State) : s.atCheck.cfg = s.cfg := rfl
@[simp] theorem State.atCheck_oracle (s : State) : s.atCheck.oracle = s.oracle := rfl
@[simp] theorem State.atCheck_boundary (s : State) : s.atCheck.boundary = s.boundary := rfl
@[simp] theorem State.atCheck_draws (s : State) : s.atCheck.draws = s.draws := rfl

@[simp] theorem State.advance_a (s : State) (len : Nat) : (s.advance len).a = s.a := rfl
@[simp] theorem State.advance_b (s : State) (len : Nat) : (s.advance len).b = s.b := rfl
@[simp] theorem State.advance_c (s : State) (len : Nat) : (s.advance len).c = s.c := rfl
@[simp] theorem State.advance_d (s : State) (len : Nat) : (s.advance len).d = s.d := rfl
@[simp] theorem State.advance_e (s : State) (len : Nat) : (s.advance len).e = s.e := rfl
@[simp] theorem State.advance_h (s : State) (len : Nat) : (s.advance len).h = s.h := rfl
@[simp] theorem State.advance_l (s : State) (len : Nat) : (s.advance len).l = s.l := rfl
@[simp] theorem State.advance_pc (s : State) (len : Nat) : (s.advance len).pc = s.pc + BitVec.ofNat 16 len := rfl
@[simp] theorem State.advance_sp (s : State) (len : Nat) : (s.advance len).sp = s.sp := rfl
@[simp] theorem State.advance_flags (s : State) (len : Nat) : (s.advance len).flags = s.flags := rfl
@[simp] theorem State.advance_ie (s : State) (len : Nat) : (s.advance len).ie = s.ie := rfl
@[simp] theorem State.advance_m75 (s : State) (len : Nat) : (s.advance len).m75 = s.m75 := rfl
@[simp] theorem State.advance_m65 (s : State) (len : Nat) : (s.advance len).m65 = s.m65 := rfl
@[simp] theorem State.advance_m55 (s : State) (len : Nat) : (s.advance len).m55 = s.m55 := rfl
@[simp] theorem State.advance_i75 (s : State) (len : Nat) : (s.advance len).i75 = s.i75 := rfl
@[simp] theorem State.advance_trapl (s : State) (len : Nat) : (s.advance len).trapl = s.trapl := rfl
@[simp] theorem State.advance_sod (s : State) (len : Nat) : (s.advance len).sod = s.sod := rfl
@[simp] theorem State.advance_halted (s : State) (len : Nat) : (s.advance len).halted = s.halted := rfl
@[simp] theorem State.advance_eihold (s : State) (len : Nat) : (s.advance len).eihold = s.eihold := rfl
@[simp] theorem State.advance_mem (s : State) (len : Nat) : (s.advance len).mem = s.mem := rfl
@[simp] theorem State.advance_cfg (s : State) (len : Nat) : (s.advance len).cfg = s.cfg := rfl
@[simp] theorem State.advance_oracle (s : State) (len : Nat) : (s.advance len).oracle = s.oracle := rfl
@[simp] theorem State.advance_boundary (s : State) (len : Nat) : (s.advance len).boundary = s.boundary := rfl
@[simp] theorem State.advance_draws (s : State) (len : Nat) : (s.advance len).draws = s.draws := rfl

@[simp] theorem State.passSample_a (s : State) : s.passSample.a = s.a := rfl
@[simp] theorem State.passSample_b (s : State) : s.passSample.b = s.b := rfl
@[simp] theorem State.passSample_c (s : State) : s.passSample.c = s.c := rfl
@[simp] theorem State.passSample_d (s : State) : s.passSample.d = s.d := rfl
@[simp] theorem State.passSample_e (s : State) : s.passSample.e = s.e := rfl
@[simp] theorem State.passSample_h (s : State) : s.passSample.h = s.h := rfl
@[simp] theorem State.passSample_l (s : State) : s.passSample.l = s.l := rfl
@[simp] theorem State.passSample_pc (s : State) : s.passSample.pc = s.pc := rfl
@[simp] theorem State.passSample_sp (s : State) : s.passSample.sp = s.sp := rfl
@[simp] theorem State.passSample_flags (s : State) : s.passSample.flags = s.flags := rfl
@[simp] theorem State.passSample_ie (s : State) : s.passSample.ie = s.ie := rfl
@[simp] theorem State.passSample_m75 (s : State) : s.passSample.m75 = s.m75 := rfl
@[simp] theorem State.passSample_m65 (s : State) : s.passSample.m65 = s.m65 := rfl
@[simp] theorem State.passSample_m55 (s : State) : s.passSample.m55 = s.m55 := rfl
@[simp] theorem State.passSample_i75 (s : State) : s.passSample.i75 = s.i75 := rfl
@[simp] theorem State.passSample_trapl (s : State) : s.passSample.trapl = s.trapl := rfl
@[simp] theorem State.passSample_sod (s : State) : s.passSample.sod = s.sod := rfl
@[simp] theorem State.passSample_halted (s : State) : s.passSample.halted = s.halted := rfl
@[simp] theorem State.passSample_eihold (s : State) : s.passSample.eihold = s.eihold := rfl
@[simp] theorem State.passSample_mem (s : State) : s.passSample.mem = s.mem := rfl
@[simp] theorem State.passSample_cfg (s : State) : s.passSample.cfg = s.cfg := rfl
@[simp] theorem State.passSample_oracle (s : State) : s.passSample.oracle = s.oracle := rfl
@[simp] theorem State.passSample_boundary (s : State) : s.passSample.boundary = s.boundary + 1 := rfl
@[simp] theorem State.passSample_draws (s : State) : s.passSample.draws = s.draws := rfl

@[simp] theorem State.kindAt_atCheck (s : State) (p : Addr) : s.atCheck.kindAt p = s.kindAt p := State.kindAt_congr rfl p
@[simp] theorem State.byteAt_atCheck (s : State) (p : Addr) : s.atCheck.byteAt p = s.byteAt p := State.byteAt_congr rfl p
@[simp] theorem State.kindAt_advance (s : State) (len : Nat) (p : Addr) : (s.advance len).kindAt p = s.kindAt p := State.kindAt_congr rfl p
@[simp] theorem State.byteAt_advance (s : State) (len : Nat) (p : Addr) : (s.advance len).byteAt p = s.byteAt p := State.byteAt_congr rfl p
@[simp] theorem State.kindAt_passSample (s : State) (p : Addr) : s.passSample.kindAt p = s.kindAt p := State.kindAt_congr rfl p
@[simp] theorem State.byteAt_passSample (s : State) (p : Addr) : s.passSample.byteAt p = s.byteAt p := State.byteAt_congr rfl p
@[simp] theorem State.env_atCheck (s : State) : s.atCheck.env = s.env := rfl
@[simp] theorem State.env_advance (s : State) (len : Nat) : (s.advance len).env = s.env := rfl

/-! ## The four cases -/

/-- A step with a reset applied. -/
theorem step_of_reset {s : State} (h : s.env.reset = true) :
    step s = .next (resetSequence (absorb s)).passSample := by
  obtain ⟨_, e⟩ | ⟨h', _⟩ | ⟨h', _⟩ | ⟨h', _⟩ := step_cases s
  · exact e
  all_goals exact nomatch h.symm.trans h'

/-- A step that takes a source. -/
theorem step_of_taken {s : State} {src : Source} (h : s.env.reset = false) (ht : s.taken = some src) :
    step s = afterBoundary (settle (interruptEntry src s.atCheck)) := by
  obtain ⟨h', _⟩ | ⟨_, src', h', e⟩ | ⟨_, h', _⟩ | ⟨_, h', _⟩ := step_cases s
  · exact nomatch h.symm.trans h'
  · obtain rfl : src = src' := Option.some.inj (ht.symm.trans h')
    exact e
  all_goals exact nomatch ht.symm.trans h'

/-- A step of a halted machine that takes no source. -/
theorem step_of_waiting {s : State} (h : s.env.reset = false) (ht : s.taken = none) (hh : s.halted = true) :
    step s = .next s.atCheck.passSample := by
  obtain ⟨h', _⟩ | ⟨_, _, h', _⟩ | ⟨_, _, _, e⟩ | ⟨_, _, h', _⟩ := step_cases s
  · exact nomatch h.symm.trans h'
  · exact nomatch ht.symm.trans h'
  · exact e
  · exact nomatch hh.symm.trans h'

/-- A step that executes an instruction. -/
theorem step_of_executes {s : State} (h : s.executes) : step s = afterBoundary (executeNext s.atCheck) := by
  obtain ⟨h', _⟩ | ⟨_, _, h', _⟩ | ⟨_, _, h', _⟩ | ⟨_, _, _, e⟩ := step_cases s
  · exact nomatch h.1.symm.trans h'
  · exact nomatch h.2.1.symm.trans h'
  · exact nomatch h.2.2.symm.trans h'
  · exact e

/-- A run that takes a first step goes on from there. -/
theorem run_succ_of_next {k : Nat} {s u : State} (h : step s = .next u) :
    Sys2Proof.core.run (k + 1) s = Sys2Proof.core.run k u := by
  rw [Host.Core.run.eq_2 Sys2Proof.core s k]
  have h : Sys2Proof.core.step s = .next u := h
  rw [h]

end Sys2Proof.Machine
end

