-- ==== Sys2Proof/Tests/Slice0.lean ====
section
/-! SUPPORT. The model's own tests: ill-formed terms, words written out from the encoding tables, one-step vectors of
95_test_vectors.md, and for every obligation with hypotheses a state and operands that meet them. -/

namespace Sys2Proof.Tests

open Sys2Proof Sys2Proof.Machine

/-! ## Helpers -/

/-- The outcome goes on, to a state with the property. -/
def goesOn (o : Host.Outcome State Fault Refusal) (p : State → Bool) : Bool :=
  match o with
  | .next t => p t
  | _ => false

/-- The outcome is this refusal. -/
def refusedWith (o : Host.Outcome State Fault Refusal) (r : Refusal) : Bool :=
  match o with
  | .refused q => q == r
  | _ => false

/-- The bytes decode, whole, to the instruction. -/
def reads (bs : List Byte) (i : Instr) : Bool :=
  match decode bs with
  | .ok (j, []) => j == i
  | _ => false

/-- Memory with the given bytes. -/
def memoryOf (cells : List (Nat × Byte)) : Memory :=
  cells.foldl (fun m p => Memory.write m p.1 p.2) []

/-- The state after reset with PC 2000H, SP 2400H and three bytes at PC, the start of the vectors of part 2.7. -/
def start (b1 : Byte) (b2 b3 : Byte := 0) : State :=
  { State.reset with pc := 0x2000, sp := 0x2400, mem := memoryOf [(0x2000, b1), (0x2001, b2), (0x2002, b3)] }

/-- The same with the return address 2003H on the stack. -/
def startReturn (b1 : Byte) : State :=
  { State.reset with pc := 0x2040, sp := 0x23FE, mem := memoryOf [(0x2040, b1), (0x23FE, 0x03), (0x23FF, 0x20)] }

/-- All five flags with one value. -/
def allFlags (b : Bool) : Flags := ⟨b, b, b, b, b⟩

/-- The environment that shows these samples, then is quiet. -/
def shows (es : List Env) : EnvOracle := { listed := es }

/-- A platform with one stretch of addresses of another kind. -/
def mapped (base size : Nat) (kind : MemKind) : Config := { memMap := [⟨base, size, kind⟩] }

/-! ## Ill-formed terms -/

/-- STAX and LDAX have the pairs B and D alone (R80). -/
theorem test_wf_refuses_stax_h : (Instr.stax .h).wf = false := by decide
theorem test_wf_refuses_stax_sp : (Instr.stax .sp).wf = false := by decide
theorem test_wf_refuses_ldax_h : (Instr.ldax .h).wf = false := by decide
theorem test_wf_refuses_ldax_sp : (Instr.ldax .sp).wf = false := by decide

/-- The byte that would be MOV M, M is HLT (R79). -/
theorem test_wf_refuses_mov_m_m : (Instr.mov .mem .mem).wf = false := by decide

/-- Only the ten bytes of R81 are undefined. -/
theorem test_wf_refuses_undefined_nop : (Instr.undefined 0x00).wf = false := by decide
theorem test_wf_refuses_undefined_rim : (Instr.undefined 0x20).wf = false := by decide

/-! ## Decoding: a word of every constructor, its bytes read off R79, R80, R81 -/

theorem test_decode_logical_register :
    (reads [0xA0] (.ana (.reg .b)) && reads [0xA6] (.ana .mem) && reads [0xAF] (.xra (.reg .a)) &&
      reads [0xA9] (.xra (.reg .c)) && reads [0xB2] (.ora (.reg .d)) && reads [0xB3] (.ora (.reg .e)) &&
      reads [0xBC] (.cmp (.reg .h)) && reads [0xBD] (.cmp (.reg .l)) && reads [0xBE] (.cmp .mem)) = true := by
  decide

theorem test_decode_logical_immediate :
    (reads [0xE6, 0x86] (.ani 0x86) && reads [0xEE, 0x86] (.xri 0x86) && reads [0xF6, 0x86] (.ori 0x86) &&
      reads [0xFE, 0x89] (.cpi 0x89)) = true := by decide

theorem test_decode_rotates_and_carry :
    (reads [0x07] .rlc && reads [0x0F] .rrc && reads [0x17] .ral && reads [0x1F] .rar && reads [0x2F] .cma &&
      reads [0x3F] .cmc && reads [0x37] .stc) = true := by decide

theorem test_decode_control :
    (reads [0x00] .nop && reads [0x76] .hlt && reads [0xF3] .di && reads [0xFB] .ei && reads [0x20] .rim &&
      reads [0x30] .sim) = true := by decide

theorem test_decode_jumps :
    (reads [0xC3, 0x34, 0x20] (.jmp 0x2034) && reads [0xC2, 0x34, 0x20] (.jnz 0x2034) &&
      reads [0xCA, 0x34, 0x20] (.jz 0x2034) && reads [0xD2, 0x34, 0x20] (.jnc 0x2034) &&
      reads [0xDA, 0x34, 0x20] (.jc 0x2034) && reads [0xE2, 0x34, 0x20] (.jpo 0x2034) &&
      reads [0xEA, 0x34, 0x20] (.jpe 0x2034) && reads [0xF2, 0x34, 0x20] (.jp 0x2034) &&
      reads [0xFA, 0x34, 0x20] (.jm 0x2034)) = true := by decide

theorem test_decode_calls :
    (reads [0xCD, 0x34, 0x20] (.call 0x2034) && reads [0xC4, 0x34, 0x20] (.cnz 0x2034) &&
      reads [0xCC, 0x34, 0x20] (.cz 0x2034) && reads [0xD4, 0x34, 0x20] (.cnc 0x2034) &&
      reads [0xDC, 0x34, 0x20] (.cc 0x2034) && reads [0xE4, 0x34, 0x20] (.cpo 0x2034) &&
      reads [0xEC, 0x34, 0x20] (.cpe 0x2034) && reads [0xF4, 0x34, 0x20] (.cp 0x2034) &&
      reads [0xFC, 0x34, 0x20] (.cm 0x2034)) = true := by decide

theorem test_decode_returns_and_restarts :
    (reads [0xC9] .ret && reads [0xC0] .rnz && reads [0xC8] .rz && reads [0xD0] .rnc && reads [0xD8] .rc &&
      reads [0xE0] .rpo && reads [0xE8] .rpe && reads [0xF0] .rp && reads [0xF8] .rm && reads [0xE9] .pchl &&
      reads [0xC7] (.rst 0) && reads [0xCF] (.rst 1) && reads [0xE7] (.rst 4) && reads [0xFF] (.rst 7)) = true := by
  decide

theorem test_decode_out_of_scope_pairs :
    (reads [0x21] (.lxi .h) && reads [0x12] (.stax .d) && reads [0x33] (.inx .sp) && reads [0x19] (.dad .d) &&
      reads [0x0A] (.ldax .b) && reads [0x2B] (.dcx .h) && reads [0xF1] (.pop .psw) && reads [0xD5] (.push .d)) =
      true := by decide

theorem test_decode_out_of_scope_operands :
    (reads [0x34] (.inr .mem) && reads [0x3D] (.dcr (.reg .a)) && reads [0x06] (.mvi (.reg .b)) &&
      reads [0x41] (.mov (.reg .b) (.reg .c)) && reads [0x77] (.mov .mem (.reg .a)) && reads [0x80] (.add (.reg .b)) &&
      reads [0x8E] (.adc .mem) && reads [0x95] (.sub (.reg .l)) && reads [0x9F] (.sbb (.reg .a))) = true := by
  decide

theorem test_decode_out_of_scope_single :
    (reads [0x22] .shld && reads [0x27] .daa && reads [0x2A] .lhld && reads [0x32] .sta && reads [0x3A] .lda &&
      reads [0xC6] .adi && reads [0xCE] .aci && reads [0xD3] .outp && reads [0xD6] .sui && reads [0xDB] .inp &&
      reads [0xDE] .sbi && reads [0xE3] .xthl && reads [0xEB] .xchg && reads [0xF9] .sphl) = true := by
  decide

theorem test_decode_undefined :
    ([0x08, 0x10, 0x18, 0x28, 0x38, 0xCB, 0xD9, 0xDD, 0xED, 0xFD].all fun b => reads [b] (.undefined b)) = true := by
  decide

theorem test_decode_names_missing_bytes :
    decode [] = .error .noBytes ∧ decode [0xFE] = .error (.truncated 0xFE) ∧
      decode [0xCD, 0x34] = .error (.truncated 0xCD) := ⟨rfl, rfl, rfl⟩

/-- A table word: CALL 2034H is CDH 34H 20H, first byte lowest; a missing operand word is zero. -/
theorem test_decode_table_word :
    decodeTableWord 24 0x2034CD = some (.call 0x2034) ∧ decodeTableWord 8 0xCD = some (.call 0x0000) ∧
      decodeTableWord 8 0x76 = some .hlt := by decide

/-! ## One step on small states: the vectors of 95_test_vectors.md part 2 -/

/-- Part 2.1, the ANA and ANI rows F0H/0FH, 93H/86H, 80H/80H: A and S Z AC P CY. -/
theorem test_and :
    ([(0xF0, 0x0F, 0x00, ⟨false, true, true, true, false⟩), (0x93, 0x86, 0x82, ⟨true, false, true, true, false⟩),
      (0x80, 0x80, 0x80, ⟨true, false, true, false, false⟩)].all fun (p : Byte × Byte × Byte × Flags) =>
      goesOn (step { start 0xA0 with a := p.1, b := p.2.1 }) (fun t => t.a == p.2.2.1 && t.flags == p.2.2.2) &&
        goesOn (step { start 0xE6 p.2.1 with a := p.1 }) (fun t => t.a == p.2.2.1 && t.flags == p.2.2.2)) = true := by
  decide

/-- Part 2.1, the XRA and XRI rows. -/
theorem test_xor :
    ([(0xF0, 0x0F, 0xFF, ⟨true, false, false, true, false⟩), (0x93, 0x86, 0x15, ⟨false, false, false, false, false⟩),
      (0x80, 0x80, 0x00, ⟨false, true, false, true, false⟩)].all fun (p : Byte × Byte × Byte × Flags) =>
      goesOn (step { start 0xA8 with a := p.1, b := p.2.1, flags := allFlags true })
          (fun t => t.a == p.2.2.1 && t.flags == p.2.2.2) &&
        goesOn (step { start 0xEE p.2.1 with a := p.1, flags := allFlags true })
          (fun t => t.a == p.2.2.1 && t.flags == p.2.2.2)) = true := by decide

/-- Part 2.1, the ORA and ORI rows. -/
theorem test_or :
    ([(0xF0, 0x0F, 0xFF, ⟨true, false, false, true, false⟩), (0x93, 0x86, 0x97, ⟨true, false, false, false, false⟩),
      (0x3C, 0x18, 0x3C, ⟨false, false, false, true, false⟩)].all fun (p : Byte × Byte × Byte × Flags) =>
      goesOn (step { start 0xB0 with a := p.1, b := p.2.1, flags := allFlags true })
          (fun t => t.a == p.2.2.1 && t.flags == p.2.2.2) &&
        goesOn (step { start 0xF6 p.2.1 with a := p.1, flags := allFlags true })
          (fun t => t.a == p.2.2.1 && t.flags == p.2.2.2)) = true := by decide

/-- Part 2.2: the flags S Z AC P CY of CMP B and CPI; A and B stay. -/
theorem test_compare :
    ([(0x3A, 0x3A, ⟨false, true, true, true, false⟩), (0x05, 0x0A, ⟨true, false, false, false, true⟩),
      (0x80, 0x7F, ⟨false, false, false, false, false⟩), (0x7F, 0x80, ⟨true, false, true, true, true⟩),
      (0x00, 0xFF, ⟨false, false, false, false, true⟩), (0x40, 0xC0, ⟨true, false, true, false, true⟩)].all
      fun (p : Byte × Byte × Flags) =>
      goesOn (step { start 0xB8 with a := p.1, b := p.2.1 })
          (fun t => t.a == p.1 && t.b == p.2.1 && t.flags == p.2.2) &&
        goesOn (step { start 0xFE p.2.1 with a := p.1 }) (fun t => t.a == p.1 && t.flags == p.2.2)) = true := by
  decide

/-- P3 boundary 5: CMP M reads the byte at H : L and leaves A. -/
theorem test_compare_memory :
    goesOn (step { start 0xBE with
        a := 0x9C, h := 0x30, l := 0x00, mem := memoryOf [(0x2000, 0xBE), (0x3000, 0xF0)] })
      (fun t => t.a == 0x9C && t.flags == ⟨true, false, true, true, true⟩ && t.pc == 0x2001) = true := by decide

/-- Part 2.3, the rows 80H/1, 85H/0 and 01H/1 of RLC, RRC, RAL, RAR: A and CY, the other flags staying. -/
theorem test_rotates :
    ([(0x07, 0x80, true, 0x01, true), (0x07, 0x85, false, 0x0B, true), (0x07, 0x01, true, 0x02, false),
      (0x0F, 0x80, true, 0x40, false), (0x0F, 0x85, false, 0xC2, true), (0x0F, 0x01, true, 0x80, true),
      (0x17, 0x80, true, 0x01, true), (0x17, 0x85, false, 0x0A, true), (0x17, 0x01, true, 0x03, false),
      (0x1F, 0x80, true, 0xC0, false), (0x1F, 0x85, false, 0x42, true), (0x1F, 0x01, true, 0x80, true)].all
      fun (p : Byte × Byte × Bool × Byte × Bool) =>
      goesOn (step { start p.1 with a := p.2.1, flags := ⟨true, true, true, true, p.2.2.1⟩ })
        (fun t => t.a == p.2.2.2.1 && t.flags == ⟨true, true, true, true, p.2.2.2.2⟩)) = true := by decide

/-- Part 2.4: CMA leaves the flags, CMC and STC leave A and the other flags. -/
theorem test_complement_and_carry :
    (goesOn (step { start 0x2F with a := 0x5A }) (fun t => t.a == 0xA5 && t.flags == allFlags false) &&
      goesOn (step (start 0x3F)) (fun t => t.flags == ⟨false, false, false, false, true⟩) &&
      goesOn (step { start 0x3F with flags := allFlags true }) (fun t => t.flags == ⟨true, true, true, true, false⟩) &&
      goesOn (step (start 0x37)) (fun t => t.flags == ⟨false, false, false, false, true⟩)) = true := by decide

/-- Part 2.5: NOP at FFFFH wraps PC; HLT halts at the byte after it. -/
theorem test_nop_wraps :
    goesOn (step { State.reset with pc := 0xFFFF }) (fun t => t == { State.reset with boundary := 1 }) = true := by
  decide

theorem test_hlt : goesOn (step (start 0x76)) (fun t => t.pc == 0x2001 && t.halted) = true := by decide

/-- Part 2.5: DI, DI after EI, EI with either delay. -/
theorem test_di_ei :
    (goesOn (step { start 0xF3 with ie := true, eihold := true }) (fun t => !t.ie && !t.eihold) &&
      goesOn (step (start 0xFB)) (fun t => t.ie && t.eihold) &&
      goesOn (step { start 0xFB with cfg := { eiDelay := false } }) (fun t => t.ie && !t.eihold)) = true := by
  decide

/-- Part 2.5: RIM after reset, all ones, mixed, right after EI (an unmasked request held off by the delay). -/
theorem test_rim :
    (goesOn (step (start 0x20)) (fun t => t.a == 0x07) &&
      goesOn (step { start 0x20 with ie := true, i75 := true, oracle := shows [{ rst65 := true, rst55 := true, sid := true }] })
        (fun t => t.a == 0xFF) &&
      goesOn (step { start 0x20 with ie := true, m65 := false, i75 := true, oracle := shows [{ sid := true }] })
        (fun t => t.a == 0xCD) &&
      goesOn (step { start 0x20 with
          ie := true, eihold := true, m75 := false, i75 := true, oracle := shows [{ sid := true }] })
        (fun t => t.a == 0xCB && t.i75)) = true := by decide

theorem test_rim_pending_while_masked :
    goesOn (step { start 0x20 with oracle := shows [{ rst55 := true }] }) (fun t => t.a == 0x17) = true := by decide

/-- Part 2.5: SIM set masks, MSE low, reset 7.5, don't care. -/
theorem test_sim_masks :
    (goesOn (step { start 0x30 with a := 0x0B }) (fun t => !t.m75 && t.m65 && t.m55 && t.a == 0x0B && !t.sod) &&
      goesOn (step { start 0x30 with a := 0x05, m75 := false, m65 := false, m55 := false })
        (fun t => !t.m75 && !t.m65 && !t.m55) &&
      goesOn (step { start 0x30 with a := 0x10, i75 := true, m65 := false })
        (fun t => !t.i75 && t.m75 && !t.m65 && t.m55) &&
      goesOn (step { start 0x30 with a := 0x28 }) (fun t => !t.m75 && !t.m65 && !t.m55)) = true := by decide

/-- Part 2.5: SIM SOD high, SOD low, SDE low, everything. -/
theorem test_sim_serial :
    (goesOn (step { start 0x30 with a := 0xC0 }) (fun t => t.sod && t.m75) &&
      goesOn (step { start 0x30 with a := 0x40, sod := true }) (fun t => !t.sod) &&
      goesOn (step { start 0x30 with a := 0x80 }) (fun t => !t.sod) &&
      goesOn (step { start 0x30 with a := 0xDF, i75 := true, m75 := false, m65 := false, m55 := false })
        (fun t => t.m75 && t.m65 && t.m55 && !t.i75 && t.sod)) = true := by decide

/-- The four flags of R150, each set alone, with the opcodes of the two jumps, calls and returns that test it: taken on 1,
taken on 0. -/
def flagTests (onSet onReset : Byte × Byte × Byte × Byte) : List (Byte × Byte × Flags) :=
  [(onSet.1, onReset.1, ⟨false, true, false, false, false⟩), (onSet.2.1, onReset.2.1, ⟨false, false, false, false, true⟩),
    (onSet.2.2.1, onReset.2.2.1, ⟨false, false, false, true, false⟩),
    (onSet.2.2.2, onReset.2.2.2, ⟨true, false, false, false, false⟩)]

/-- The other four flags. -/
def others (f : Flags) : Flags := ⟨!f.s, !f.z, !f.ac, !f.p, !f.cy⟩

/-- Part 2.6 and 2.7: each conditional jump with its own flag alone set and with all the others set. -/
theorem test_conditional_jumps :
    ((flagTests (0xCA, 0xDA, 0xEA, 0xFA) (0xC2, 0xD2, 0xE2, 0xF2)).all fun p =>
      goesOn (step { start p.1 0x34 0x20 with flags := p.2.2 }) (fun t => t.pc == 0x2034) &&
        goesOn (step { start p.1 0x34 0x20 with flags := others p.2.2 }) (fun t => t.pc == 0x2003) &&
        goesOn (step { start p.2.1 0x34 0x20 with flags := p.2.2 }) (fun t => t.pc == 0x2003) &&
        goesOn (step { start p.2.1 0x34 0x20 with flags := others p.2.2 }) (fun t => t.pc == 0x2034)) = true := by
  decide

/-- The effect of CALL 2034H at 2000H with SP = 2400H (part 2.7). -/
def called (t : State) : Bool :=
  t.pc == 0x2034 && t.sp == 0x23FE && t.byteAt 0x23FF == 0x20 && t.byteAt 0x23FE == 0x03

/-- The state after a three-byte instruction at 2000H that did nothing else. -/
def passedBy (t : State) : Bool :=
  t.pc == 0x2003 && t.sp == 0x2400 && t.byteAt 0x23FF == 0x00 && t.byteAt 0x23FE == 0x00

/-- Part 2.7: CALL; with SP = 0001H and 0000H; at the top of memory. -/
theorem test_call :
    (goesOn (step (start 0xCD 0x34 0x20)) called &&
      goesOn (step { start 0xCD 0x34 0x20 with sp := 0x0001 })
        (fun t => t.sp == 0xFFFF && t.byteAt 0x0000 == 0x20 && t.byteAt 0xFFFF == 0x03) &&
      goesOn (step { start 0xCD 0x34 0x20 with sp := 0x0000 })
        (fun t => t.sp == 0xFFFE && t.byteAt 0xFFFF == 0x20 && t.byteAt 0xFFFE == 0x03)) = true := by decide

/-- Part 2.6 and 2.7: each conditional call. -/
theorem test_conditional_calls :
    ((flagTests (0xCC, 0xDC, 0xEC, 0xFC) (0xC4, 0xD4, 0xE4, 0xF4)).all fun p =>
      goesOn (step { start p.1 0x34 0x20 with flags := p.2.2 }) called &&
        goesOn (step { start p.1 0x34 0x20 with flags := others p.2.2 }) passedBy &&
        goesOn (step { start p.2.1 0x34 0x20 with flags := p.2.2 }) passedBy &&
        goesOn (step { start p.2.1 0x34 0x20 with flags := others p.2.2 }) called) = true := by decide

/-- Part 2.7: RET; with SP = FFFFH. -/
theorem test_ret :
    (goesOn (step (startReturn 0xC9)) (fun t => t.pc == 0x2003 && t.sp == 0x2400 && t.byteAt 0x23FF == 0x20) &&
      goesOn (step { startReturn 0xC9 with
          sp := 0xFFFF, mem := memoryOf [(0x0000, 0x12), (0x2040, 0xC9), (0xFFFF, 0x34)] })
        (fun t => t.pc == 0x1234 && t.sp == 0x0001)) = true := by decide

/-- Part 2.6 and 2.7: each conditional return. -/
theorem test_conditional_returns :
    ((flagTests (0xC8, 0xD8, 0xE8, 0xF8) (0xC0, 0xD0, 0xE0, 0xF0)).all fun p =>
      goesOn (step { startReturn p.1 with flags := p.2.2 }) (fun t => t.pc == 0x2003 && t.sp == 0x2400) &&
        goesOn (step { startReturn p.1 with flags := others p.2.2 }) (fun t => t.pc == 0x2041 && t.sp == 0x23FE) &&
        goesOn (step { startReturn p.2.1 with flags := p.2.2 }) (fun t => t.pc == 0x2041 && t.sp == 0x23FE) &&
        goesOn (step { startReturn p.2.1 with flags := others p.2.2 }) (fun t => t.pc == 0x2003 && t.sp == 0x2400)) =
      true := by decide

/-- Part 2.7: PCHL and RST 1, RST 7. -/
theorem test_pchl : goesOn (step { start 0xE9 with h := 0x20, l := 0x34 }) (fun t => t.pc == 0x2034) = true := by
  decide

theorem test_rst :
    (goesOn (step (start 0xCF)) (fun t => t.pc == 0x0008 && t.sp == 0x23FE && t.byteAt 0x23FE == 0x01) &&
      goesOn (step (start 0xFF)) (fun t => t.pc == 0x0038 && t.byteAt 0x23FF == 0x20)) = true := by decide

/-- JMP with its bytes across the top of memory. -/
theorem test_jmp_across_top :
    goesOn (step { State.reset with pc := 0xFFFE, mem := memoryOf [(0xFFFE, 0xC3), (0xFFFF, 0x34), (0x0000, 0x20)] })
      (fun t => t.pc == 0x2034) = true := by decide

/-! ## Refusals, interrupts, reset: the vectors of part 3 -/

/-- The refusal vectors: MVI A, ADD B, 08H, EDH, no memory at PC. -/
theorem test_refusals :
    (refusedWith (step (start 0x3E)) (.outOfScopeOpcode 0x2000 0x3E) &&
      refusedWith (step (start 0x80)) (.outOfScopeOpcode 0x2000 0x80) &&
      refusedWith (step (start 0x08)) (.undefinedOpcode 0x2000 0x08) &&
      refusedWith (step (start 0xED)) (.undefinedOpcode 0x2000 0xED) &&
      refusedWith (step { start 0x00 with cfg := mapped 0x2000 1 .absent }) (.absentMemory 0x2000)) = true := by
  decide

/-- CALL with nothing at SP - 1 is refused; with ROM at SP - 1 and SP - 2 the two bytes stay. -/
theorem test_call_stack_kinds :
    (refusedWith (step { start 0xCD 0x34 0x20 with cfg := mapped 0x23FF 1 .absent }) (.absentMemory 0x23FF) &&
      goesOn (step { start 0xCD 0x34 0x20 with cfg := mapped 0x23FE 2 .rom })
        (fun t => t.pc == 0x2034 && t.sp == 0x23FE && t.byteAt 0x23FF == 0x00 && t.byteAt 0x23FE == 0x00)) = true := by
  decide

/-- P5b boundaries 4 and 5: an RST 7.5 edge right after EI is latched, not taken; taken from the halt at the next. -/
theorem test_rst75_held_off_then_taken :
    (goesOn (step { start 0x76 with ie := true, eihold := true, m75 := false, oracle := shows [{ rst75Edge := true }] })
        (fun t => t.halted && t.i75 && !t.eihold) &&
      goesOn (step { start 0x00 with ie := true, halted := true, m75 := false, i75 := true })
        (fun t => t.pc == 0x003C && t.sp == 0x23FE && !t.halted && !t.ie && !t.i75 && t.byteAt 0x23FF == 0x20)) =
      true := by decide

/-- P6 boundaries 2 and 3: with IE = 0 RST 6.5 does not end the halt, TRAP does. -/
theorem test_trap_wakes_disabled :
    (goesOn (step { start 0x00 with halted := true, m65 := false, oracle := shows [{ rst65 := true }] })
        (fun t => t.halted && t.pc == 0x2000) &&
      goesOn (step { start 0x00 with halted := true, m65 := false, oracle := shows [{ rst65 := true, trapEvent := true }] })
        (fun t => !t.halted && t.pc == 0x0024 && !t.trapl)) = true := by decide

/-- P7a boundary 2, P7c: INTR runs the inserted RST 5; an inserted CDH is refused. -/
theorem test_intr :
    (goesOn (step { start 0x00 with ie := true, oracle := shows [{ intr := true, inserted := 0xEF }] })
        (fun t => t.pc == 0x0028 && !t.ie && t.byteAt 0x23FF == 0x20 && t.byteAt 0x23FE == 0x00) &&
      refusedWith (step { start 0x00 with ie := true, oracle := shows [{ intr := true, inserted := 0xCD }] })
        (.insertedOpcode 0xCD)) = true := by decide

/-- Lines tied to a level: at boundary 1000 RIM reads SID = 1 and RST 5.5 = 1, and INTR held is taken. -/
theorem test_lines_tied_high :
    (goesOn (step { start 0x20 with boundary := 1000, oracle := { tail := .steady { sid := true, rst55 := true } } })
        (fun t => t.a == 0x97 && t.boundary == 1001) &&
      goesOn (step { start 0x00 with
          boundary := 1000, ie := true, oracle := { tail := .steady { intr := true, inserted := 0xC7 } } })
        (fun t => t.pc == 0x0000 && t.sp == 0x23FE)) = true := by decide

/-- The second of two listed samples is the one of boundary 1. -/
theorem test_second_sample :
    goesOn (step { start 0x20 with boundary := 1, oracle := shows [{ reset := true }, { sid := true }] })
      (fun t => t.a == 0x87) = true := by decide

/-- A reset leaves memory and sets PC, IE, the masks and the latches as R240 says. -/
theorem test_reset_event :
    goesOn (step { start 0x76 with ie := true, m75 := false, halted := true, sod := true, oracle := shows [{ reset := true }] })
      (fun t => t.pc == 0x0000 && !t.ie && t.m75 && !t.halted && !t.sod && t.byteAt 0x2000 == 0x76 && t.draws == 1) =
      true := by decide

/-- The word the host places is the instruction that runs: RST 5 from reset pushes 0001H. -/
theorem test_fetch_word :
    (goesOn (step (State.reset.withFetchWord 8 0xEF)) (fun t => t.pc == 0x0028 && t.byteAt 0xFFFE == 0x01) &&
      goesOn (step (State.reset.withFetchWord 24 0x2034C3)) (fun t => t.pc == 0x2034) &&
      goesOn (step (State.reset.withFetchWord 8 0xFE)) (fun t => t.pc == 0x0002 && t.flags.z)) = true := by
  decide

/-! ## Witnesses: for every obligation with hypotheses, states and operands that meet them together -/

/-- DecodeEncodeRoundTrip: the ends of the well-formed operands. -/
theorem witness_round_trip :
    (Instr.jm 0xFFFF).wf = true ∧ (Instr.rst 7).wf = true ∧ (Instr.ldax .d).wf = true ∧
      (Instr.mov (.reg .a) .mem).wf = true ∧ (Instr.undefined 0xFD).wf = true := by decide

/-- EncodeDecodeExact: lists that decode, with a rest. -/
theorem witness_decodes :
    decode [0xCD, 0x34, 0x20, 0x55] = .ok (.call 0x2034, [0x55]) ∧ decode [0x3E, 0x01] = .ok (.mvi (.reg .a), [0x01]) :=
  ⟨rfl, rfl⟩

/-- JMP 2034H with its bytes at FFFEH, FFFFH and 0000H. -/
def acrossTop : State :=
  { State.reset with pc := 0xFFFE, mem := memoryOf [(0xFFFE, 0xC3), (0xFFFF, 0x34), (0x0000, 0x20)] }

/-- StepRunsDecodedInstruction: an instruction whose bytes lie across the top of memory. -/
theorem witness_step_runs :
    (Instr.jmp 0x2034).wf = true ∧ acrossTop.executes ∧
      ∀ k, k < (encode (.jmp 0x2034)).length →
        acrossTop.present (acrossTop.pc + BitVec.ofNat 16 k) ∧
          (encode (.jmp 0x2034))[k]? = some (acrossTop.byteAt (acrossTop.pc + BitVec.ofNat 16 k)) := by decide

/-- And-, ExclusiveOr-, Or-, CompareInstructions: the operand M at FFFFH with memory there, and with ROM there. -/
theorem witness_operand_present :
    operandPresent .mem { State.reset with h := 0xFF, l := 0xFF } ∧
      operandPresent .mem { State.reset with h := 0xFF, l := 0xFF, cfg := mapped 0xFFFF 1 .rom } ∧
      operandPresent (.reg .b) { State.reset with cfg := mapped 0 65536 .absent } := by decide

/-- AbsentOperandRefused. -/
theorem witness_absent_operand :
    State.kindAt { State.reset with h := 0xFF, l := 0xFF, cfg := mapped 0xFFFF 1 .absent } 0xFFFF = .absent ∧
      State.hl { State.reset with h := 0xFF, l := 0xFF, cfg := mapped 0xFFFF 1 .absent } = 0xFFFF := by decide

/-- RotatesUndoEachOther: each of the four rotates goes on. -/
theorem witness_rotates_go_on :
    (∃ t, exec .rlc State.reset = .next t) ∧ (∃ t, exec .rrc State.reset = .next t) ∧
      (∃ t, exec .ral State.reset = .next t) ∧ ∃ t, exec .rar State.reset = .next t :=
  ⟨⟨_, rfl⟩, ⟨_, rfl⟩, ⟨_, rfl⟩, ⟨_, rfl⟩⟩

/-- DisableInterrupts: after DI a TRAP that arrives can be taken. -/
theorem witness_trap_after_di :
    canTake false (absorb { State.reset with ie := false, oracle := shows [{ trapEvent := true, intr := true }] }) .trap = true := by
  decide

/-- SimIgnoresDontCareBit. -/
theorem witness_sim_goes_on : ∃ t, exec .sim { State.reset with a := 0x28 } = .next t := ⟨_, rfl⟩

/-- SodWrittenBySimReadByNone: an instruction other than SIM that goes on, and one that is refused. -/
theorem witness_sod :
    (∃ t, exec .rim { State.reset with sod := true } = .next t) ∧ Instr.rim ≠ .sim ∧
      ∃ r, exec (.undefined 0x08) State.reset = .refused r :=
  ⟨⟨_, rfl⟩, by decide, ⟨_, rfl⟩⟩

/-- CallInstruction, RestartInstruction: SP at either end of memory, over RAM and over ROM. -/
theorem witness_pushable :
    (Memory.wf (start 0xCD).mem = true ∧ (start 0xCD).pushable) ∧
      State.pushable { start 0xCD with sp := 0x0000 } ∧ State.pushable { start 0xCD with sp := 0x0001 } ∧
      State.pushable { start 0xCD with cfg := mapped 0x23FE 2 .rom } := by decide

/-- ConditionalCallInstructions, AbsentStackRefused: each row both holds and fails, on the flags all 1 and all 0. -/
theorem witness_call_conditions :
    (conditionalCalls.all fun p => p.2 (allFlags true) != p.2 (allFlags false)) = true := by decide

/-- ReturnInstructions: the same for the returns, and a stack that can be popped, with SP at the end of memory. -/
theorem witness_return_conditions :
    (conditionalReturns.all fun p => p.2 (allFlags true) != p.2 (allFlags false)) = true ∧
      (startReturn 0xC9).poppable ∧ State.poppable { startReturn 0xC9 with sp := 0xFFFF } := by decide

/-- AbsentStackRefused: nothing at SP - 1, at SP - 2 alone, at SP, at SP + 1 alone, across the ends of memory. -/
theorem witness_absent_stack :
    State.kindAt { State.reset with sp := 0x0000, cfg := mapped 0xFFFF 1 .absent } 0xFFFF = .absent ∧
      (State.present { State.reset with sp := 0x0001, cfg := mapped 0xFFFF 1 .absent } 0x0000 ∧
        State.kindAt { State.reset with sp := 0x0001, cfg := mapped 0xFFFF 1 .absent } 0xFFFF = .absent) ∧
      State.kindAt { State.reset with sp := 0xFFFF, cfg := mapped 0xFFFF 1 .absent } 0xFFFF = .absent ∧
      State.present { State.reset with sp := 0xFFFF, cfg := mapped 0x0000 1 .absent } 0xFFFF ∧
      State.kindAt { State.reset with sp := 0xFFFF, cfg := mapped 0x0000 1 .absent } 0x0000 = .absent := by decide

/-- InternalRestartsAreNoRst: RST 4 and RST 7 go on. -/
theorem witness_rst_goes_on :
    (∃ t, exec (.rst 4) (start 0xE7) = .next t) ∧ ∃ t, exec (.rst 7) (start 0xFF) = .next t :=
  ⟨⟨_, rfl⟩, ⟨_, rfl⟩⟩

/-- PushThenPopRestores: a push over RAM, and as the later state the one it leaves with another A and PC. -/
theorem witness_push_then_pop :
    Memory.wf (start 0).mem = true ∧ (start 0).kindAt ((start 0).sp - 1) = .ram ∧
      (start 0).kindAt ((start 0).sp - 2) = .ram ∧
      ∃ t, push16 (start 0) 0x1234 = .ok t ∧ (t.setA 0x55).sp = t.sp ∧ (t.setA 0x55).cfg = t.cfg ∧
        (t.setA 0x55).byteAt t.sp = t.byteAt t.sp ∧ (t.setA 0x55).byteAt (t.sp + 1) = t.byteAt (t.sp + 1) :=
  ⟨by decide, by decide, by decide, _, rfl, rfl, rfl, rfl, rfl⟩

/-- CallThenReturnResumes. -/
theorem witness_call_goes_on :
    Memory.wf (start 0xCD).mem = true ∧ (start 0xCD).kindAt ((start 0xCD).sp - 1) = .ram ∧
      (start 0xCD).kindAt ((start 0xCD).sp - 2) = .ram ∧ ∃ t, exec (.call 0x2034) (start 0xCD) = .next t :=
  ⟨by decide, by decide, by decide, _, rfl⟩

/-- StackWrapsAtAddressEnds: each of the three values of SP. -/
theorem witness_stack_wraps :
    [0x0001, 0x0000, 0xFFFF].all (fun (sp : Addr) =>
      decide (Memory.wf (start 0xCD).mem = true ∧ State.kindAt { start 0xCD with sp := sp } 0x0000 = .ram ∧
        State.kindAt { start 0xCD with sp := sp } 0xFFFE = .ram ∧
        State.kindAt { start 0xCD with sp := sp } 0xFFFF = .ram)) = true := by decide

/-- UndefinedBytesRefused. -/
theorem witness_undefined_byte : (0xFD : Byte) ∈ undefinedBytes ∧ (0x08 : Byte) ∈ undefinedBytes := by decide

/-- FetchRefusals: nothing at PC, an undefined byte, a byte outside the scope. -/
theorem witness_fetch_refusals :
    (State.executes { start 0 with cfg := mapped 0x2000 1 .absent } ∧
        State.kindAt { start 0 with cfg := mapped 0x2000 1 .absent } 0x2000 = .absent) ∧
      ((start 0x08).executes ∧ (start 0x08).present 0x2000 ∧ (start 0x08).byteAt 0x2000 ∈ undefinedBytes) ∧
      (start 0x3E).executes ∧ (start 0x3E).present 0x2000 ∧ (start 0x3E).byteAt 0x2000 ∉ undefinedBytes ∧
      (start 0x3E).byteAt 0x2000 ∉ scopeBytes := by decide

/-- A state with IE set and no mask that sees these requests. -/
def requested (e : Env) : State :=
  { start 0x00 with ie := true, m75 := false, m65 := false, m55 := false, oracle := shows [e] }

/-- InterruptEntry: each of the four sources is taken somewhere, TRAP against all the others and the EI delay. -/
theorem witness_internal_sources_taken :
    (State.taken { requested { trapEvent := true, rst75Edge := true, rst65 := true, intr := true } with eihold := true } =
        some .trap ∧
      (requested { rst75Edge := true, rst65 := true, rst55 := true, intr := true }).taken = some .rst75 ∧
      (requested { rst65 := true, rst55 := true, intr := true }).taken = some .rst65 ∧
      (requested { rst55 := true, intr := true }).taken = some .rst55) ∧
    (requested { rst55 := true }).env.reset = false ∧ Memory.wf (requested { rst55 := true }).mem = true ∧
      (requested { rst55 := true }).pushable := by decide

/-- IntrEntry: INTR taken with RST 7 inserted. -/
theorem witness_intr_taken :
    (requested { intr := true, inserted := 0xFF }).env.reset = false ∧
      (requested { intr := true, inserted := 0xFF }).taken = some .intr ∧
      (requested { intr := true, inserted := 0xFF }).env.inserted = 0b11#2 ++ (7 : BitVec 3) ++ 0b111#3 ∧
      Memory.wf (requested { intr := true, inserted := 0xFF }).mem = true ∧
      (requested { intr := true, inserted := 0xFF }).pushable := by decide

/-- InterruptRefusals: CDH inserted; an internal source with nothing at SP - 1; an RST with nothing at SP - 2 alone. -/
theorem witness_interrupt_refusals :
    ((requested { intr := true, inserted := 0xCD }).taken = some .intr ∧
        ∀ n : BitVec 3, (requested { intr := true, inserted := 0xCD }).env.inserted ≠ 0b11#2 ++ n ++ 0b111#3) ∧
      (State.taken { requested { rst65 := true } with cfg := mapped 0x23FF 1 .absent } = some .rst65 ∧
        State.kindAt { requested { rst65 := true } with cfg := mapped 0x23FF 1 .absent } 0x23FF = .absent) ∧
      State.taken { requested { intr := true, inserted := 0xC7 } with cfg := mapped 0x23FE 1 .absent } = some .intr ∧
      (0xC7 : Byte) = 0b11#2 ++ (0 : BitVec 3) ++ 0b111#3 ∧
      State.present { requested { intr := true, inserted := 0xC7 } with cfg := mapped 0x23FE 1 .absent } 0x23FF ∧
      State.kindAt { requested { intr := true, inserted := 0xC7 } with cfg := mapped 0x23FE 1 .absent } 0x23FE =
        .absent := by decide

/-- TrapNeverHeldOff: a latched request and an arriving one, halted with IE = 0 and the masks set. -/
theorem witness_trap_pending :
    (State.env { start 0 with trapl := true, halted := true }).reset = false ∧
      State.pushable { start 0 with trapl := true, halted := true } ∧
      (State.env { start 0 with eihold := true, oracle := shows [{ trapEvent := true }] }).trapEvent = true := by decide

/-- The state in which EI runs at 2000H with an INTR request at this boundary and the next. -/
def enabling : State :=
  { start 0xFB with oracle := { tail := .steady { intr := true, inserted := 0xFF } } }

/-- EiProtectsNextInstruction: both parts, the request still there at the second boundary. -/
theorem witness_ei_then_request :
    enabling.executes ∧ enabling.present 0x2000 ∧ enabling.byteAt enabling.pc = 0xFB ∧ enabling.cfg.eiDelay = true ∧
      goesOn (step enabling) (fun t => !t.env.reset && !t.env.trapEvent && t.env.intr && t.ie) = true := by decide

/-- HaltedMachineWaits: a masked request and a disabled one do not end the halt. -/
theorem witness_halted_waits :
    State.taken { start 0 with halted := true, oracle := shows [{ rst75Edge := true, intr := true }] } = none ∧
      (State.env { start 0 with halted := true, oracle := shows [{ rst75Edge := true, intr := true }] }).reset = false := by
  decide

/-- HaltLeftOnlyByInterruptOrReset: left by a reset, left by INTR, entered by HLT. -/
theorem witness_halt_left_and_entered :
    goesOn (step { start 0 with halted := true, oracle := shows [{ reset := true }] }) (fun t => !t.halted) = true ∧
      goesOn (step { requested { intr := true, inserted := 0xC7 } with halted := true }) (fun t => !t.halted) = true ∧
      goesOn (step (start 0x76)) (fun t => t.halted) = true := by decide

/-- ResetEvent. -/
theorem witness_reset_applied :
    (State.env { start 0 with oracle := shows [{ reset := true, trapEvent := true }] }).reset = true := by
  decide

/-- StepKeepsInvariant, StepKeepsConfiguration, RegistersBToLConstant, MemoryWrittenOnlyByPushes: a CALL with EIHOLD set, from
a state of the invariant. -/
theorem witness_step_from_invariant :
    State.Inv { start 0xCD 0x34 0x20 with ie := true, eihold := true } ∧
      State.Inv { start 0xCD 0x34 0x20 with sp := 0x0000 } ∧
      (start 0xCD 0x34 0x20).env.reset = false ∧
      goesOn (step { start 0xCD 0x34 0x20 with ie := true, eihold := true })
        (fun t => t.byteAt 0x23FF != (start 0xCD 0x34 0x20).byteAt 0x23FF) = true := by decide

/-- RomNeverChanges: a CALL that pushes into ROM goes on. -/
theorem witness_push_into_rom :
    goesOn (step { start 0xCD 0x34 0x20 with cfg := mapped 0x23FE 2 .rom }) (fun _ => true) = true ∧
      State.kindAt { start 0xCD 0x34 0x20 with cfg := mapped 0x23FE 2 .rom } 0x23FF ≠ .ram := by decide

/-- ControlCellWriters, AccumulatorAndFlagWriters: STC goes on; it writes a flag, not A, and is no branch. RIM the other
way round. JMP is a branch. -/
theorem witness_writers :
    (∃ t, exec .stc State.reset = .next t) ∧ (∃ t, exec .rim State.reset = .next t) ∧
      (∃ t, exec (.jmp 0xFFFF) State.reset = .next t) ∧ writesA .stc = false ∧ writesFlags .rim = false ∧
      isBranch .stc = false ∧ isBranch (.jmp 0xFFFF) = true :=
  ⟨⟨_, rfl⟩, ⟨_, rfl⟩, ⟨_, rfl⟩, rfl, rfl, rfl, rfl⟩

/-- AuxiliaryCarryIsNeverRead: a step that goes on and one that is refused. -/
theorem witness_ac :
    goesOn (step (start 0xE6 0x0F)) (fun t => t.flags.ac) = true ∧
      refusedWith (step (start 0x27)) (.outOfScopeOpcode 0x2000 0x27) = true := by decide

/-- ScopeInstructionsAllComplete: the default memory map has no absent address. -/
theorem witness_memory_everywhere :
    (Instr.rst 7).wf = true ∧ inScope (.rst 7) = true ∧ inScope (.mvi .mem) = false ∧
      ∀ a, (start 0xFF).present a :=
  ⟨rfl, by decide, by decide, fun _ h => nomatch h⟩

/-- Halted with interrupts enabled, a masked edge to come and then a masked level that stays for ever. -/
def atRest : State :=
  { start 0 with
    halted := true, ie := true
    oracle := { listed := [{ rst75Edge := true }], tail := .steady { rst65 := true, sid := true } } }

/-- EndedRunStaysEnded: an environment that never becomes quiet. -/
theorem witness_ended : atRest.ended := by
  refine ⟨rfl, rfl, rfl, rfl, fun k => ?_⟩
  cases k with
  | zero => rfl
  | succ k => simp [State.sample, atRest, start, State.idleSample, State.reset]

/-- RunConsultsEnvOncePerBoundary: two steps that complete, from a state late in a run. -/
theorem witness_run_goes_on : ∃ t, Sys2Proof.core.run 2 { atRest with boundary := 1000 } = .next t := ⟨_, rfl⟩

end Sys2Proof.Tests
end

section
/-! PROOFS. The SOD latch (10_state.md R37). The key fact is that every instruction but SIM commutes with a write of SOD
(`exec_setSod`). That no such instruction reads SOD is this fact up to SOD; that none writes it is this fact for the
value the latch already holds. -/

namespace Sys2Proof.Machine

/-! ## Writes of SOD, on states and on outcomes -/

@[simp] theorem State.setSod_setSod (s : State) (b c : Bool) : (s.setSod b).setSod c = s.setSod c := rfl

/-- The outcome with SOD written in the state that goes on; a refusal carries no state. -/
def nextWithSod (b : Bool) : Host.Outcome State Fault Refusal → Host.Outcome State Fault Refusal
  | .next t => .next (t.setSod b)
  | .fault f => .fault f
  | .refused r => .refused r

@[simp] theorem nextWithSod_next (b : Bool) (t : State) : nextWithSod b (.next t) = .next (t.setSod b) := rfl

@[simp] theorem nextWithSod_refused (b : Bool) (r : Refusal) : nextWithSod b (.refused r) = .refused r := rfl

theorem nextWithSod_nextWithSod (b c : Bool) (o : Host.Outcome State Fault Refusal) :
    nextWithSod c (nextWithSod b o) = nextWithSod c o := by
  cases o <;> rfl

theorem nextWithSod_eq_next {b : Bool} {o : Host.Outcome State Fault Refusal} {t : State} :
    nextWithSod b o = .next t ↔ ∃ u, o = .next u ∧ u.setSod b = t := by
  cases o <;> simp [nextWithSod]

theorem nextWithSod_eq_refused {b : Bool} {o : Host.Outcome State Fault Refusal} {r : Refusal} :
    nextWithSod b o = .refused r ↔ o = .refused r := by
  cases o <;> simp [nextWithSod]

/-! ## The shared operations commute with a write of SOD -/

@[simp] theorem State.kindAt_setSod (s : State) (b : Bool) (p : Addr) : (s.setSod b).kindAt p = s.kindAt p :=
  State.kindAt_congr rfl p

@[simp] theorem memRead_setSod (s : State) (b : Bool) (p : Addr) : memRead (s.setSod b) p = memRead s p := rfl

theorem memWrite_setSod (s : State) (b : Bool) (p : Addr) (v : Byte) :
    memWrite (s.setSod b) p v = (memWrite s p v).map (·.setSod b) := by
  unfold memWrite
  rw [State.kindAt_setSod]
  cases s.kindAt p <;> rfl

theorem push16_setSod (s : State) (b : Bool) (v : Addr) :
    push16 (s.setSod b) v = (push16 s v).map (·.setSod b) := by
  have hhi : (s.setSod b).pushHiAddr = s.pushHiAddr := rfl
  have hlo : (s.setSod b).pushLoAddr = s.pushLoAddr := rfl
  unfold push16
  rw [hhi, hlo, memWrite_setSod]
  cases memWrite s s.pushHiAddr (hiByte v) with
  | error r => rfl
  | ok s1 =>
    simp only [Except.map, memWrite_setSod]
    cases memWrite s1 s.pushLoAddr (loByte v) <;> rfl

theorem callTo_setSod (target : Addr) (s : State) (b : Bool) :
    callTo target (s.setSod b) = (callTo target s).map (·.setSod b) := by
  unfold callTo
  rw [push16_setSod, State.setSod_pc]
  cases push16 s s.pc <;> rfl

theorem returnFrom_setSod (s : State) (b : Bool) :
    returnFrom (s.setSod b) = (returnFrom s).map (·.setSod b) := by
  unfold returnFrom pop16
  simp only [memRead_setSod, State.setSod_sp]
  cases memRead s s.sp with
  | error r => rfl
  | ok lo => cases memRead s (s.sp + 1) <;> rfl

theorem settle_map_setSod (x : Except Refusal State) (b : Bool) :
    settle (x.map (·.setSod b)) = nextWithSod b (settle x) := by
  cases x <;> rfl

theorem settle_callTo_setSod (target : Addr) (s : State) (b : Bool) :
    settle (callTo target (s.setSod b)) = nextWithSod b (settle (callTo target s)) := by
  rw [callTo_setSod, settle_map_setSod]

theorem settle_returnFrom_setSod (s : State) (b : Bool) :
    settle (returnFrom (s.setSod b)) = nextWithSod b (settle (returnFrom s)) := by
  rw [returnFrom_setSod, settle_map_setSod]

/-! ## The shared forms commute with a write of SOD -/

theorem readOperand_setSod (x : Operand) (s : State) (b : Bool) : readOperand x (s.setSod b) = readOperand x s := by
  cases x with
  | reg r => cases r <;> rfl
  | mem => rfl

theorem withOperand_setSod (x : Operand) (s : State) (b : Bool) {act act' : Byte → State}
    (h : ∀ v, act' v = (act v).setSod b) :
    withOperand x (s.setSod b) act' = nextWithSod b (withOperand x s act) := by
  unfold withOperand
  rw [readOperand_setSod]
  cases readOperand x s with
  | error r => rfl
  | ok v => exact congrArg Host.Outcome.next (h v)

theorem jumpIf_setSod (k : Cond) (addr : Addr) (s : State) (b : Bool) :
    jumpIf k addr (s.setSod b) = nextWithSod b (jumpIf k addr s) := by
  unfold jumpIf
  rw [State.setSod_flags]
  cases k.holds s.flags <;> rfl

theorem callIf_setSod (k : Cond) (addr : Addr) (s : State) (b : Bool) :
    callIf k addr (s.setSod b) = nextWithSod b (callIf k addr s) := by
  unfold callIf
  rw [State.setSod_flags]
  cases k.holds s.flags with
  | false => rfl
  | true => exact settle_callTo_setSod addr s b

theorem returnIf_setSod (k : Cond) (s : State) (b : Bool) :
    returnIf k (s.setSod b) = nextWithSod b (returnIf k s) := by
  unfold returnIf
  rw [State.setSod_flags]
  cases k.holds s.flags with
  | false => rfl
  | true => exact settle_returnFrom_setSod s b

/-! ## The instructions -/

/-- Every instruction but SIM commutes with a write of SOD: by its shared form where it has one; the others update fields
that are not SOD, or are refused. -/
theorem exec_setSod {i : Instr} (h : i ≠ .sim) (s : State) (b : Bool) :
    exec i (s.setSod b) = nextWithSod b (exec i s) := by
  cases i with
  | sim => exact absurd rfl h
  | ana x | xra x | ora x | cmp x => exact withOperand_setSod x s b fun _ => rfl
  | jnz addr | jz addr | jnc addr | jc addr | jpo addr | jpe addr | jp addr | jm addr =>
    exact jumpIf_setSod _ addr s b
  | call addr => exact settle_callTo_setSod addr s b
  | rst n => exact settle_callTo_setSod (restartAddr n) s b
  | cnz addr | cz addr | cnc addr | cc addr | cpo addr | cpe addr | cp addr | cm addr =>
    exact callIf_setSod _ addr s b
  | ret => exact settle_returnFrom_setSod s b
  | rnz | rz | rnc | rc | rpo | rpe | rp | rm => exact returnIf_setSod _ s b
  | _ => rfl

/-- An instruction other than SIM leaves SOD: it commutes with writing the value SOD already has, which is no change. -/
theorem exec_sod_of_ne_sim {i : Instr} {s t : State} (h : exec i s = .next t) (hi : i ≠ .sim) : t.sod = s.sod := by
  have hself : s.setSod s.sod = s := rfl
  have hcomm : exec i s = nextWithSod s.sod (exec i s) := by
    rw [← exec_setSod hi, hself]
  rw [h, nextWithSod_next, Host.Outcome.next.injEq] at hcomm
  rw [hcomm, State.setSod_sod]

/-! ## SIM -/

@[simp] theorem simMasks_sod (cmd : Byte) (s : State) : (simMasks cmd s).sod = s.sod := by
  unfold simMasks
  split <;> rfl

@[simp] theorem simResetI75_sod (cmd : Byte) (s : State) : (simResetI75 cmd s).sod = s.sod := by
  unfold simResetI75
  split <;> rfl

theorem simSod_sod (cmd : Byte) (s : State) :
    (simSod cmd s).sod = if cmd.getLsbD 6 then cmd.getLsbD 7 else s.sod := by
  unfold simSod
  split <;> rfl

theorem simMasks_setSod (cmd : Byte) (s : State) (b : Bool) :
    simMasks cmd (s.setSod b) = (simMasks cmd s).setSod b := by
  unfold simMasks
  split <;> rfl

theorem simResetI75_setSod (cmd : Byte) (s : State) (b : Bool) :
    simResetI75 cmd (s.setSod b) = (simResetI75 cmd s).setSod b := by
  unfold simResetI75
  split <;> rfl

/-- SIM's serial part writes nothing but SOD. -/
theorem setSod_simSod (cmd : Byte) (s : State) (b : Bool) : (simSod cmd s).setSod b = s.setSod b := by
  unfold simSod
  split <;> rfl

theorem exec_sim (s : State) : exec .sim s = .next (simSod s.a (simResetI75 s.a (simMasks s.a s))) := rfl

/-- With another value in SOD, SIM goes on to the same state but for SOD. -/
theorem exec_sim_ignores_sod (s : State) (b : Bool) :
    nextWithSod false (exec .sim (s.setSod b)) = nextWithSod false (exec .sim s) := by
  simp only [exec_sim, nextWithSod_next, State.setSod_a, simMasks_setSod, simResetI75_setSod, setSod_simSod,
    State.setSod_setSod]

/-! ## The statement -/

/-- No instruction reads SOD. -/
theorem exec_ignores_sod (i : Instr) (s : State) (b : Bool) :
    nextWithSod false (exec i (s.setSod b)) = nextWithSod false (exec i s) := by
  by_cases h : i = .sim
  · rw [h, exec_sim_ignores_sod]
  · rw [exec_setSod h, nextWithSod_nextWithSod]

/-- Settles O21: SIM by its three parts, the other instructions by `exec_setSod`. -/
theorem sodWrittenBySimReadByNone : Obligations.SodWrittenBySimReadByNone := by
  refine ⟨fun s => ⟨_, exec_sim s, ?_⟩, fun _ _ _ => exec_sod_of_ne_sim,
    fun i s b => ⟨fun t h => ?_, fun r h => ?_⟩⟩
  · rw [simSod_sod, simResetI75_sod, simMasks_sod]
  · have hsame := exec_ignores_sod i s b
    rw [h, nextWithSod_next] at hsame
    exact nextWithSod_eq_next.mp hsame
  · have hsame := exec_ignores_sod i s b
    rw [h, nextWithSod_refused] at hsame
    exact nextWithSod_eq_refused.mp hsame

end Sys2Proof.Machine
end

section
/-! PROOFS. The rotates, CMA, CMC and STC (40_logical.md R110 to R116). The four rotates are two shifts by one position, left
and right, that differ only in the bit that comes in; what such a shift does to each bit is proved once, for any incoming
bit. -/

namespace Sys2Proof.Machine

/-! ## A byte moved by one position, with an incoming bit -/

/-- Moved left, bit 0 is the incoming bit. -/
theorem getLsbD_zero_shiftedLeft (x : Byte) (c : BitVec 1) :
    (x.extractLsb' 0 7 ++ c).getLsbD 0 = c.getLsbD 0 := by
  rw [BitVec.getLsbD_append, if_pos Nat.one_pos]

/-- Moved left, bit `i` becomes bit `i + 1`. -/
theorem getLsbD_succ_shiftedLeft (x : Byte) (c : BitVec 1) {i : Nat} (h : i < 7) :
    (x.extractLsb' 0 7 ++ c).getLsbD (i + 1) = x.getLsbD i := by
  rw [BitVec.getLsbD_append, if_neg (by omega)]
  simp [h]

/-- Moved right, bit 7 is the incoming bit. -/
theorem getLsbD_seven_shiftedRight (x : Byte) (c : BitVec 1) :
    (c ++ x.extractLsb' 1 7).getLsbD 7 = c.getLsbD 0 := by
  rw [BitVec.getLsbD_append, if_neg (by omega)]

/-- Moved right, bit `i + 1` becomes bit `i`. -/
theorem getLsbD_shiftedRight (x : Byte) (c : BitVec 1) {i : Nat} (h : i < 7) :
    (c ++ x.extractLsb' 1 7).getLsbD i = x.getLsbD (i + 1) := by
  rw [BitVec.getLsbD_append, if_pos h]
  simp [h, Nat.add_comm]

/-! ## What the instructions do to the state -/

@[simp] theorem setRotated_a (result : Byte) (carry : Bool) (s : State) : (setRotated result carry s).a = result := rfl

@[simp] theorem setRotated_cy (result : Byte) (carry : Bool) (s : State) :
    (setRotated result carry s).flags.cy = carry := rfl

theorem exec_rlc (s : State) :
    exec .rlc s = .next (setRotated (s.a.extractLsb' 0 7 ++ s.a.extractLsb' 7 1) (s.a.getLsbD 7) s) := rfl

theorem exec_rrc (s : State) :
    exec .rrc s = .next (setRotated (s.a.extractLsb' 0 1 ++ s.a.extractLsb' 1 7) (s.a.getLsbD 0) s) := rfl

theorem exec_ral (s : State) :
    exec .ral s = .next (setRotated (s.a.extractLsb' 0 7 ++ BitVec.ofBool s.flags.cy) (s.a.getLsbD 7) s) := rfl

theorem exec_rar (s : State) :
    exec .rar s = .next (setRotated (BitVec.ofBool s.flags.cy ++ s.a.extractLsb' 1 7) (s.a.getLsbD 0) s) := rfl

theorem exec_cma (s : State) : exec .cma s = .next { s with a := ~~~s.a } := rfl

theorem exec_cmc (s : State) :
    exec .cmc s = .next { s with flags := { s.flags with cy := !s.flags.cy } } := rfl

theorem exec_stc (s : State) : exec .stc s = .next { s with flags := { s.flags with cy := true } } := rfl

/-! ## The statements -/

/-- Settles O11: each rotate is `setRotated`, which changes A and CY alone, of A moved left or right; the incoming bit is
the one that leaves at the other end (RLC, RRC) or the old CY (RAL, RAR). -/
theorem rotateInstructions : Obligations.RotateInstructions := by
  intro s
  refine ⟨⟨_, exec_rlc s, setRotated_eq _ _ s, fun i hi => ?_, ?_, setRotated_cy _ _ s⟩,
    ⟨_, exec_rrc s, setRotated_eq _ _ s, fun i hi => ?_, ?_, setRotated_cy _ _ s⟩,
    ⟨_, exec_ral s, setRotated_eq _ _ s, fun i hi => ?_, ?_, setRotated_cy _ _ s⟩,
    ⟨_, exec_rar s, setRotated_eq _ _ s, fun i hi => ?_, ?_, setRotated_cy _ _ s⟩⟩
  · exact getLsbD_succ_shiftedLeft s.a _ hi
  · rw [setRotated_a, getLsbD_zero_shiftedLeft]
    simp
  · exact getLsbD_shiftedRight s.a _ hi
  · rw [setRotated_a, getLsbD_seven_shiftedRight]
    simp
  · exact getLsbD_succ_shiftedLeft s.a _ hi
  · rw [setRotated_a, getLsbD_zero_shiftedLeft]
    simp
  · exact getLsbD_shiftedRight s.a _ hi
  · rw [setRotated_a, getLsbD_seven_shiftedRight]
    simp

/-- Settles O12: CMA bit by bit, CMC and STC by the state they leave. -/
theorem complementAndCarryInstructions : Obligations.ComplementAndCarryInstructions := by
  refine fun s => ⟨⟨_, exec_cma s, rfl, fun i hi => ?_⟩, exec_cmc s, exec_stc s⟩
  rw [BitVec.getLsbD_not, decide_eq_true hi, Bool.true_and]

end Sys2Proof.Machine
end

section
/-! PROOFS. The four internal restarts (42_branch.md R182). An RST goes to a multiple of 8, and 0024H, 002CH, 0034H and
003CH are none. -/

namespace Sys2Proof.Machine

/-- A call that goes through leaves PC at its target. -/
theorem callTo_pc {target : Addr} {s t : State} (h : callTo target s = .ok t) : t.pc = target := by
  obtain ⟨-, -, u, hu, -⟩ | ⟨-, he⟩ | ⟨-, -, he⟩ := callTo_cases target s
  · cases h.symm.trans hu
    exact State.setPc_pc u target
  · cases h.symm.trans he
  · cases h.symm.trans he

theorem exec_rst (n : BitVec 3) (s : State) : exec (.rst n) s = settle (callTo (restartAddr n) s) := rfl

theorem exec_rst_pc {n : BitVec 3} {s t : State} (h : exec (.rst n) s = .next t) : t.pc = restartAddr n := by
  rw [exec_rst, settle_eq_next] at h
  exact callTo_pc h

/-- Where an RST goes is a multiple of 8 (R180). -/
theorem exec_rst_pc_mod_eight {n : BitVec 3} {s t : State} (h : exec (.rst n) s = .next t) : t.pc.toNat % 8 = 0 := by
  rw [exec_rst_pc h, restartAddr_toNat, Nat.mul_mod_right]

/-- No RST goes to an address that 8 does not divide. -/
theorem exec_rst_pc_ne {n : BitVec 3} {s t : State} {p : Addr} (h : exec (.rst n) s = .next t)
    (hp : p.toNat % 8 ≠ 0) : t.pc ≠ p := by
  rintro rfl
  exact hp (exec_rst_pc_mod_eight h)

/-- Settles O29: none of the four addresses is a multiple of 8, as where an RST goes is; that the interrupts call them is
`interruptEntry`'s own case for each source. -/
theorem internalRestartsAreNoRst : Obligations.InternalRestartsAreNoRst := by
  refine ⟨fun m => by omega, fun n s t h => ?_, fun s => ⟨rfl, rfl, rfl, rfl⟩⟩
  exact ⟨exec_rst_pc_ne h (by decide), exec_rst_pc_ne h (by decide), exec_rst_pc_ne h (by decide),
    exec_rst_pc_ne h (by decide)⟩

end Sys2Proof.Machine
end

section
/-! PROOFS. The decoder and the encoder undo each other (30_encoding.md section 3). An instruction is fixed by its opcode
byte but for its operand bytes: what a row of the opcode table builds has the opcode, and is well-formed, whatever the
bytes after the first, so these facts are decided over the 256 opcode bytes; the operand bytes are compared row by row. -/

namespace Sys2Proof

open Sys2Proof.Machine

/-! ## What the decoder builds -/

/-- The instructions the spec excludes (30_encoding.md R80). -/
def Instr.isExcluded : Instr → Bool
  | .lxi _ | .stax _ | .inx _ | .inr _ | .dcr _ | .mvi _ | .dad _ | .ldax _ | .dcx _ => true
  | .shld | .daa | .lhld | .sta | .lda | .mov _ _ | .add _ | .adc _ | .sub _ | .sbb _ => true
  | .pop _ | .push _ | .adi | .aci | .outp | .sui | .inp | .sbi | .xthl | .xchg | .sphl => true
  | _ => false

/-- Two instructions of one opcode, alike in all but their operands. -/
structure SameOpcode (i j : Instr) : Prop where
  opcode   : opcode i = opcode j
  wf       : i.wf = j.wf
  excluded : i.isExcluded = j.isExcluded

/-- How many operand bytes a row's instruction has: none outside the scope (log 10). -/
def OpcodeRow.operandCount (r : OpcodeRow) : Nat :=
  if r.scope = .inScope then r.length - 1 else 0

theorem OpcodeRow.build_spec :
    ∀ r ∈ opcodeRows, ∀ b1 b2 b3, SameOpcode (r.build b1 b2 b3) (r.build b1 0 0) ∧
      operandBytes (r.build b1 b2 b3) = [b2, b3].take r.operandCount := by
  intro r hr b1 b2 b3
  fin_cases hr <;> refine ⟨⟨rfl, rfl, rfl⟩, ?_⟩ <;>
    simp [operandBytes, OpcodeRow.operandCount, loByte_ofBytes, hiByte_ofBytes]

theorem decodeBytes_of_noRow {b1 b2 b3 : Byte} (h : rowOf b1 = none) : decodeBytes b1 b2 b3 = .undefined b1 := by
  simp only [decodeBytes, h]

theorem decodeBytes_of_undefined {b1 b2 b3 : Byte} (h : b1 ∈ undefinedBytes) :
    decodeBytes b1 b2 b3 = .undefined b1 :=
  decodeBytes_of_noRow ((rowOf_eq_none_iff b1).mpr h)

theorem decodeBytes_sameOpcode (b1 b2 b3 : Byte) : SameOpcode (decodeBytes b1 b2 b3) (decodeBytes b1 0 0) := by
  cases h : rowOf b1 with
  | none => rw [decodeBytes_of_noRow h, decodeBytes_of_noRow h]; exact ⟨rfl, rfl, rfl⟩
  | some r =>
    rw [decodeBytes_of_row h, decodeBytes_of_row h]
    exact (OpcodeRow.build_spec r (rowOf_some h).1 b1 b2 b3).1

theorem opcode_decodeBytes (b1 b2 b3 : Byte) : opcode (decodeBytes b1 b2 b3) = b1 := by
  have key : ∀ b : Byte, opcode (decodeBytes b 0 0) = b := by decide +kernel
  rw [(decodeBytes_sameOpcode b1 b2 b3).opcode, key]

theorem wf_decodeBytes (b1 b2 b3 : Byte) : (decodeBytes b1 b2 b3).wf = true := by
  have key : ∀ b : Byte, (decodeBytes b 0 0).wf = true := by decide +kernel
  rw [(decodeBytes_sameOpcode b1 b2 b3).wf, key]

/-- The decoder reads an excluded instruction exactly at the bytes of R80. -/
theorem isExcluded_decodeBytes (b1 b2 b3 : Byte) :
    (decodeBytes b1 b2 b3).isExcluded = true ↔ b1 ∉ scopeBytes ∧ b1 ∉ undefinedBytes := by
  have key : ∀ b : Byte, (decodeBytes b 0 0).isExcluded = true ↔ b ∉ scopeBytes ∧ b ∉ undefinedBytes := by
    decide +kernel
  rw [(decodeBytes_sameOpcode b1 b2 b3).excluded, key]

/-! ## How many bytes are read -/

theorem fetchLength_bounds (b : Byte) : 1 ≤ fetchLength b ∧ fetchLength b ≤ 3 := by
  revert b; decide +kernel

theorem fetchLength_eq_one {b : Byte} (h : b ∉ scopeBytes) : fetchLength b = 1 := by
  revert b; decide +kernel

/-- A row's operand bytes are those the decoder reads beyond the opcode. -/
theorem operandCount_of_row {b : Byte} {r : OpcodeRow} (h : rowOf b = some r) :
    r.operandCount = fetchLength b - 1 := by
  unfold OpcodeRow.operandCount
  cases hs : r.scope with
  | inScope => rw [fetchLength_of_row h hs, if_pos rfl]
  | outOfScope => rw [fetchLength_of_outOfScope h hs, if_neg (by decide)]

theorem operandBytes_decodeBytes (b1 b2 b3 : Byte) :
    operandBytes (decodeBytes b1 b2 b3) = [b2, b3].take (fetchLength b1 - 1) := by
  cases h : rowOf b1 with
  | none => rw [decodeBytes_of_noRow h]; simp [operandBytes, fetchLength, h]
  | some r =>
    rw [decodeBytes_of_row h, (OpcodeRow.build_spec r (rowOf_some h).1 b1 b2 b3).2, operandCount_of_row h]

/-! ## Decoding what the encoder writes -/

/-- The decoder finds a well-formed instruction at its opcode byte where its operand bytes come next. -/
theorem decodeBytes_opcode {i : Instr} {bs : List Byte} (hwf : i.wf = true) (h : operandBytes i <+: bs) :
    decodeBytes (opcode i) (bs.getD 0 0) (bs.getD 1 0) = i := by
  obtain ⟨rest, rfl⟩ := h
  cases i with
  | ana x | xra x | ora x | cmp x | inr x | dcr x | mvi x | add x | adc x | sub x | sbb x =>
    cases x with
    | mem => rfl
    | reg r => cases r <;> rfl
  | mov dst src =>
    cases dst with
    | mem =>
      cases src with
      | mem => exact absurd hwf (by decide)
      | reg r => cases r <;> rfl
    | reg r =>
      cases src with
      | mem => cases r <;> rfl
      | reg q => cases r <;> cases q <;> rfl
  | rst n => fin_cases n <;> rfl
  | lxi pair | inx pair | dad pair | dcx pair => cases pair <;> rfl
  | pop pair | push pair => cases pair <;> rfl
  | stax pair | ldax pair =>
    cases pair with
    | b | d => rfl
    | h | sp => exact absurd hwf (by decide)
  | jmp addr | jnz addr | jz addr | jnc addr | jc addr | jpo addr | jpe addr | jp addr | jm addr | call addr
  | cnz addr | cz addr | cnc addr | cc addr | cpo addr | cpe addr | cp addr | cm addr =>
    simp only [opcode]
    exact congrArg _ (ofBytes_lo_hi addr)
  | ani data | xri data | ori data | cpi data => simp only [opcode]; rfl
  | undefined op => exact decodeBytes_of_undefined (List.contains_iff_mem.mp hwf)
  | _ => rfl

/-- A well-formed instruction's bytes are as many as its opcode makes the decoder read. -/
theorem length_encode {i : Instr} (hwf : i.wf = true) : (encode i).length = fetchLength (opcode i) := by
  have hb := fetchLength_bounds (opcode i)
  have h := operandBytes_decodeBytes (opcode i) ((operandBytes i).getD 0 0) ((operandBytes i).getD 1 0)
  rw [decodeBytes_opcode hwf (List.prefix_refl _)] at h
  rw [encode, List.length_cons, h, List.length_take, List.length_cons, List.length_singleton]
  omega

/-- Settles O1: the decoder goes on at the opcode byte, finds the instruction by `decodeBytes_opcode`, and drops exactly
the instruction's bytes. -/
theorem decodeEncodeRoundTrip : Obligations.DecodeEncodeRoundTrip := by
  intro i rest hwf
  have hlen : fetchLength (opcode i) = (encode i).length := (length_encode hwf).symm
  have hdec := decodeBytes_opcode hwf (List.prefix_append (operandBytes i) rest)
  have hle : fetchLength (opcode i) ≤ (operandBytes i ++ rest).length + 1 := by
    rw [hlen, encode, List.length_cons, List.length_append]; omega
  rw [encode, List.cons_append, decode_cons hle, hdec, hlen, ← List.cons_append, ← encode, List.drop_left]

/-! ## Encoding what the decoder reads -/

/-- The decoder reads an instruction only where all its bytes stand. -/
theorem decode_eq_ok {bs rest : List Byte} {i : Instr} (h : decode bs = .ok (i, rest)) :
    ∃ b1 tl, bs = b1 :: tl ∧ fetchLength b1 - 1 ≤ tl.length ∧ i = decodeBytes b1 (tl.getD 0 0) (tl.getD 1 0) ∧
      rest = tl.drop (fetchLength b1 - 1) := by
  cases bs with
  | nil => exact nomatch h
  | cons b1 tl =>
    have hb := (fetchLength_bounds b1).1
    have hlen : ¬ (b1 :: tl).length < fetchLength b1 := fun hlt => by rw [decode, if_pos hlt] at h; cases h
    rw [decode, if_neg hlen] at h
    cases h
    rw [List.length_cons] at hlen
    refine ⟨b1, tl, rfl, by omega, rfl, ?_⟩
    obtain ⟨n, hn⟩ := Nat.exists_eq_add_of_le' hb
    rw [hn, List.drop_succ_cons, Nat.add_sub_cancel]

/-- The first two bytes of a list, padded with 0, begin as the list does as far as it goes. -/
theorem take_getD_pair {tl : List Byte} {n : Nat} (hn : n ≤ 2) (hl : n ≤ tl.length) :
    [tl.getD 0 0, tl.getD 1 0].take n = tl.take n := by
  match n, tl with
  | 0, _ => rfl
  | 1, _ :: _ => rfl
  | 2, _ :: _ :: _ => rfl

/-- Settles O2: the opcode and the operand bytes of what was read are the bytes read, and the rest is what was dropped. -/
theorem encodeDecodeExact : Obligations.EncodeDecodeExact := by
  intro bs i rest h
  obtain ⟨b1, tl, rfl, hl, rfl, rfl⟩ := decode_eq_ok h
  have hb := fetchLength_bounds b1
  refine ⟨wf_decodeBytes _ _ _, ?_⟩
  rw [encode, opcode_decodeBytes, operandBytes_decodeBytes, take_getD_pair (by omega) hl, List.cons_append,
    List.take_append_drop]

/-! ## The opcode table -/

/-- Settles O3. -/
theorem sampleWordsDecode : Obligations.SampleWordsDecode :=
  ⟨rfl, rfl, rfl, rfl, rfl, rfl, rfl, rfl, rfl, rfl, rfl⟩

/-- Settles O4, over the 256 byte values. -/
theorem opcodeBytesClassified : Obligations.OpcodeBytesClassified := by
  refine ⟨?_, ?_, rfl, ?_, rfl, ?_⟩ <;> decide +kernel

end Sys2Proof
end

section
/-! PROOFS. The logical instructions (40_logical.md). The machine computes flags by bits, the statements by numbers; that
the two agree is shown once for the results of AND, OR and exclusive OR and once for the compare. -/

namespace Sys2Proof.Machine

/-! ## Flags by numbers -/

theorem signFlag_eq (v : Byte) : signFlag v = decide (128 ≤ v.toNat) := by
  rw [signFlag, ← BitVec.msb_eq_getLsbD_last v, BitVec.msb_eq_decide]

theorem zeroFlag_eq (v : Byte) : zeroFlag v = decide (v.toNat = 0) := by
  rw [zeroFlag, beq_eq_decide, decide_eq_decide, BitVec.toNat_eq]
  rfl

theorem parityFlag_eq (v : Byte) : parityFlag v = evenOnes v := by
  revert v; decide +kernel

theorem logicFlags_eq (result : Byte) (ac : Bool) : logicFlags result ac = flagsOfResult result ac := by
  rw [logicFlags, flagsOfResult, signFlag_eq, zeroFlag_eq, parityFlag_eq]

/-- No borrow out of bit 3 is a carry out of bit 3 when the complement and 1 are added. -/
theorem lowNibble_le_iff (acc v : Byte) :
    v.extractLsb' 0 4 ≤ acc.extractLsb' 0 4 ↔ 16 ≤ acc.toNat % 16 + (255 - v.toNat) % 16 + 1 := by
  have hv := v.isLt
  rw [BitVec.le_def, BitVec.extractLsb'_toNat, BitVec.extractLsb'_toNat]
  simp only [Nat.shiftRight_zero]
  omega

theorem toNat_sub_eq (acc v : Byte) : (acc - v).toNat = (acc.toNat + 256 - v.toNat) % 256 := by
  have hv := v.isLt
  rw [BitVec.toNat_sub]
  omega

theorem compareFlags_eq (acc v : Byte) : compareFlags acc v = flagsOfCompare acc v := by
  have hd : BitVec.ofNat 8 ((acc.toNat + 256 - v.toNat) % 256) = acc - v := by
    rw [← toNat_sub_eq, BitVec.ofNat_toNat, BitVec.setWidth_eq]
  simp only [compareFlags, flagsOfCompare, hd, signFlag_eq, parityFlag_eq, toNat_sub_eq, lowNibble_le_iff,
    BitVec.lt_def, beq_eq_decide, BitVec.toNat_eq]

/-! ## The second operand -/

/-- Where the operand has memory, the instruction acts on its value. -/
theorem withOperand_of_present {x : Operand} {s : State} (h : operandPresent x s) (act : Byte → State) :
    withOperand x s act = .next (act (operandValue x s)) := by
  obtain ⟨r, rfl, e⟩ | ⟨rfl, _, e⟩ | ⟨rfl, ha, _⟩ := readOperand_cases x s
  · rw [withOperand, e]; rfl
  · rw [withOperand, e]; rfl
  · exact absurd ha (h rfl)

/-- M without memory refuses the instruction. -/
theorem withOperand_of_absent {s : State} (h : s.kindAt s.hl = .absent) (act : Byte → State) :
    withOperand .mem s act = .refused (.absentMemory s.hl) := by
  obtain ⟨v, e, _⟩ | ⟨-, -, e⟩ := withOperand_cases .mem s act
  · exact nomatch e.symm.trans (memRead_of_absent h)
  · exact e

/-! ## The statements -/

/-- Settles O6: the operand's value is read, and the flags of the result are those by numbers. -/
theorem andInstructions : Obligations.AndInstructions := by
  refine fun s => ⟨fun x h => ?_, fun data => ?_⟩
  · rw [← logicFlags_eq]; exact withOperand_of_present h _
  · rw [← logicFlags_eq]; rfl

/-- Settles O7. -/
theorem exclusiveOrInstructions : Obligations.ExclusiveOrInstructions := by
  refine fun s => ⟨fun x h => ?_, fun data => ?_⟩
  · rw [← logicFlags_eq]; exact withOperand_of_present h _
  · rw [← logicFlags_eq]; rfl

/-- Settles O8. -/
theorem orInstructions : Obligations.OrInstructions := by
  refine fun s => ⟨fun x h => ?_, fun data => ?_⟩
  · rw [← logicFlags_eq]; exact withOperand_of_present h _
  · rw [← logicFlags_eq]; rfl

/-- Settles O9. -/
theorem compareInstructions : Obligations.CompareInstructions := by
  refine fun s => ⟨fun x h => ?_, fun data => ?_⟩
  · rw [← compareFlags_eq]; exact withOperand_of_present h _
  · rw [← compareFlags_eq]; rfl

/-- Settles O10: all four read their operand first. -/
theorem absentOperandRefused : Obligations.AbsentOperandRefused := by
  intro s h
  exact ⟨withOperand_of_absent h _, withOperand_of_absent h _, withOperand_of_absent h _, withOperand_of_absent h _⟩

end Sys2Proof.Machine
end

section
/-! PROOFS. Rotates in a row (40_logical.md sections 4 and 6). That two rotates undo each other is read off bit by bit from
what a shift by one position does. Rotates in a row are the iterates of a function on A and CY, which has finite order. -/

namespace Sys2Proof.Machine

/-! ## A shift one way and back -/

/-- Moved left and back right, with the bit that left at the top coming in again. -/
theorem shiftedRight_shiftedLeft (x : Byte) (c : BitVec 1) :
    BitVec.ofBool (x.getLsbD 7) ++ (x.extractLsb' 0 7 ++ c).extractLsb' 1 7 = x := by
  apply BitVec.eq_of_getLsbD_eq
  intro i hi
  by_cases h : i < 7
  · rw [getLsbD_shiftedRight _ _ h, getLsbD_succ_shiftedLeft _ _ h]
  · obtain rfl : i = 7 := by omega
    rw [getLsbD_seven_shiftedRight, BitVec.getLsbD_ofBool]
    simp

/-- Moved right and back left, with the bit that left at the bottom coming in again. -/
theorem shiftedLeft_shiftedRight (x : Byte) (c : BitVec 1) :
    (c ++ x.extractLsb' 1 7).extractLsb' 0 7 ++ BitVec.ofBool (x.getLsbD 0) = x := by
  apply BitVec.eq_of_getLsbD_eq
  intro i hi
  cases i with
  | zero => rw [getLsbD_zero_shiftedLeft, BitVec.getLsbD_ofBool]; simp
  | succ i =>
    have h : i < 7 := by omega
    rw [getLsbD_succ_shiftedLeft _ _ h, getLsbD_shiftedRight _ _ h]

/-- One bit of a byte, as a bit vector. -/
theorem extractLsb'_one (x : Byte) (i : Nat) : x.extractLsb' i 1 = BitVec.ofBool (x.getLsbD i) := by
  apply BitVec.eq_of_getLsbD_eq
  intro j hj
  obtain rfl : j = 0 := by omega
  rw [BitVec.getLsbD_extractLsb', BitVec.getLsbD_ofBool]
  simp

theorem setRotated_setRotated (r r' : Byte) (c c' : Bool) (s : State) :
    setRotated r' c' (setRotated r c s) = setRotated r' c' s := rfl

theorem setRotated_self (s : State) : setRotated s.a s.flags.cy s = s := rfl

/-- Settles O13: the second rotate takes in again the bit that the first took out. -/
theorem rotatesUndoEachOther : Obligations.RotatesUndoEachOther := by
  intro s t
  refine ⟨fun h => ?_, fun h => ?_, fun h => ?_, fun h => ?_⟩
  · rw [exec_rlc, Host.Outcome.next.injEq] at h
    subst h
    rw [exec_rrc, setRotated_a, setRotated_setRotated, getLsbD_zero_shiftedLeft, extractLsb'_one _ 0,
      getLsbD_zero_shiftedLeft, extractLsb'_one, BitVec.getLsbD_ofBool, decide_eq_true rfl, Bool.true_and,
      shiftedRight_shiftedLeft, setRotated_eq]
  · rw [exec_rrc, Host.Outcome.next.injEq] at h
    subst h
    rw [exec_rlc, setRotated_a, setRotated_setRotated, getLsbD_seven_shiftedRight, extractLsb'_one _ 7,
      getLsbD_seven_shiftedRight, extractLsb'_one, BitVec.getLsbD_ofBool, decide_eq_true rfl, Bool.true_and,
      shiftedLeft_shiftedRight, setRotated_eq]
  · rw [exec_ral, Host.Outcome.next.injEq] at h
    subst h
    rw [exec_rar, setRotated_a, setRotated_cy, setRotated_setRotated, shiftedRight_shiftedLeft,
      getLsbD_zero_shiftedLeft, BitVec.getLsbD_ofBool, decide_eq_true rfl, Bool.true_and, setRotated_self]
  · rw [exec_rar, Host.Outcome.next.injEq] at h
    subst h
    rw [exec_ral, setRotated_a, setRotated_cy, setRotated_setRotated, shiftedLeft_shiftedRight,
      getLsbD_seven_shiftedRight, BitVec.getLsbD_ofBool, decide_eq_true rfl, Bool.true_and, setRotated_self]

/-! ## Rotates in a row -/

/-- What RLC makes of A and CY. -/
def rlcStep (p : Byte × Bool) : Byte × Bool := (p.1.extractLsb' 0 7 ++ p.1.extractLsb' 7 1, p.1.getLsbD 7)

/-- What RRC makes of A and CY. -/
def rrcStep (p : Byte × Bool) : Byte × Bool := (p.1.extractLsb' 0 1 ++ p.1.extractLsb' 1 7, p.1.getLsbD 0)

/-- What RAL makes of A and CY. -/
def ralStep (p : Byte × Bool) : Byte × Bool := (p.1.extractLsb' 0 7 ++ BitVec.ofBool p.2, p.1.getLsbD 7)

/-- What RAR makes of A and CY. -/
def rarStep (p : Byte × Bool) : Byte × Bool := (BitVec.ofBool p.2 ++ p.1.extractLsb' 1 7, p.1.getLsbD 0)

theorem execTimes_succ_of_next {n : Nat} {i : Instr} {s t : State} (h : exec i s = .next t) :
    execTimes (n + 1) i s = execTimes n i t := by
  simp only [execTimes, h]

/-- An instruction that maps A and CY by a function, done `n` times, maps them by its `n`-th iterate. -/
theorem execTimes_of_rotates {i : Instr} {g : Byte × Bool → Byte × Bool}
    (hg : ∀ s, exec i s = .next (setRotated (g (s.a, s.flags.cy)).1 (g (s.a, s.flags.cy)).2 s)) (n : Nat) :
    ∀ s, execTimes n i s = .next (setRotated (g^[n] (s.a, s.flags.cy)).1 (g^[n] (s.a, s.flags.cy)).2 s) := by
  induction n with
  | zero => exact fun s => rfl
  | succ n ih =>
    intro s
    rw [execTimes_succ_of_next (hg s), ih, setRotated_a, setRotated_cy, setRotated_setRotated, Prod.mk.eta,
      Function.iterate_succ_apply]

theorem rlcStep_iterate_eight (p : Byte × Bool) : rlcStep^[8] p = (p.1, p.1.getLsbD 0) := by
  have key : ∀ (a : Byte) (c : Bool), rlcStep^[8] (a, c) = (a, a.getLsbD 0) := by decide +kernel
  exact key p.1 p.2

theorem rrcStep_iterate_eight (p : Byte × Bool) : rrcStep^[8] p = (p.1, p.1.getLsbD 7) := by
  have key : ∀ (a : Byte) (c : Bool), rrcStep^[8] (a, c) = (a, a.getLsbD 7) := by decide +kernel
  exact key p.1 p.2

theorem ralStep_iterate_nine (p : Byte × Bool) : ralStep^[9] p = p := by
  have key : ∀ (a : Byte) (c : Bool), ralStep^[9] (a, c) = (a, c) := by decide +kernel
  exact key p.1 p.2

theorem rarStep_iterate_nine (p : Byte × Bool) : rarStep^[9] p = p := by
  have key : ∀ (a : Byte) (c : Bool), rarStep^[9] (a, c) = (a, c) := by decide +kernel
  exact key p.1 p.2

/-- Settles O14: by the order of each rotate on A and CY. -/
theorem rotateOrders : Obligations.RotateOrders := by
  intro s
  refine ⟨?_, ?_, ?_, ?_⟩
  · rw [execTimes_of_rotates (g := rlcStep) exec_rlc, rlcStep_iterate_eight, setRotated_eq]
  · rw [execTimes_of_rotates (g := rrcStep) exec_rrc, rrcStep_iterate_eight, setRotated_eq]
  · rw [execTimes_of_rotates (g := ralStep) exec_ral, ralStep_iterate_nine, setRotated_self]
  · rw [execTimes_of_rotates (g := rarStep) exec_rar, rarStep_iterate_nine, setRotated_self]

end Sys2Proof.Machine
end

section
/-! PROOFS. The control instructions (41_control.md): NOP, HLT, DI, EI, RIM, SIM. -/

namespace Sys2Proof.Machine

theorem exec_di (s : State) : exec .di s = .next { s with ie := false, eihold := false } := rfl

theorem exec_ei (s : State) : exec .ei s = .next { s with ie := true, eihold := s.cfg.eiDelay } := rfl

theorem exec_rim (s : State) : exec .rim s = .next (s.setA (rimByte s)) := rfl

/-- Settles O15. -/
theorem nopAndHalt : Obligations.NopAndHalt := fun _ => ⟨rfl, rfl⟩

/-- With IE reset no source but TRAP can be taken. -/
theorem canTake_of_disabled {hold : Bool} {s : State} {src : Source} (hie : s.ie = false)
    (h : canTake hold s src = true) : src = .trap := by
  cases src with
  | trap => rfl
  | rst75 | rst65 | rst55 | intr => simp [canTake, hie] at h

/-- Settles O16: after DI the enable is reset, and absorbing events sets no enable. -/
theorem disableInterrupts : Obligations.DisableInterrupts := by
  intro s
  refine ⟨_, exec_di s, rfl, fun o n hold => ⟨fun src h => canTake_of_disabled rfl h, rfl⟩⟩

/-- Settles O17. -/
theorem enableInterrupts : Obligations.EnableInterrupts := exec_ei

/-- Eight bits put side by side, bit 7 first, are the bits of the byte. -/
theorem getLsbD_eightBits : ∀ b7 b6 b5 b4 b3 b2 b1 b0 : Bool,
    let v : Byte := BitVec.ofBool b7 ++ BitVec.ofBool b6 ++ BitVec.ofBool b5 ++ BitVec.ofBool b4 ++
      BitVec.ofBool b3 ++ BitVec.ofBool b2 ++ BitVec.ofBool b1 ++ BitVec.ofBool b0
    v.getLsbD 7 = b7 ∧ v.getLsbD 6 = b6 ∧ v.getLsbD 5 = b5 ∧ v.getLsbD 4 = b4 ∧ v.getLsbD 3 = b3 ∧
      v.getLsbD 2 = b2 ∧ v.getLsbD 1 = b1 ∧ v.getLsbD 0 = b0 := by
  decide +kernel

/-- Settles O18: RIM writes A alone, and its byte is the eight bits put side by side. -/
theorem rimLoadsStatus : Obligations.RimLoadsStatus := by
  exact fun s => ⟨_, exec_rim s, rfl, getLsbD_eightBits _ _ _ _ _ _ _ _⟩

/-- The three parts of SIM, each by its own bit of the command byte. -/
theorem exec_sim_eq (s : State) : exec .sim s = .next { s with
    m75 := if s.a.getLsbD 3 then s.a.getLsbD 2 else s.m75
    m65 := if s.a.getLsbD 3 then s.a.getLsbD 1 else s.m65
    m55 := if s.a.getLsbD 3 then s.a.getLsbD 0 else s.m55
    i75 := if s.a.getLsbD 4 then false else s.i75
    sod := if s.a.getLsbD 6 then s.a.getLsbD 7 else s.sod } := by
  rw [exec_sim, simSod, simResetI75, simMasks]
  cases s.a.getLsbD 3 <;> cases s.a.getLsbD 4 <;> cases s.a.getLsbD 6 <;> rfl

/-- Settles O19. -/
theorem simObeysCommandByte : Obligations.SimObeysCommandByte := exec_sim_eq

/-- Inverting D5 leaves every other bit. -/
theorem getLsbD_xor_bit5 (v : Byte) {i : Nat} (h : i ≠ 5) : (v ^^^ 0x20).getLsbD i = v.getLsbD i := by
  have h5 : (0x20 : Byte) = BitVec.twoPow 8 5 := rfl
  rw [BitVec.getLsbD_xor, h5, BitVec.getLsbD_twoPow, decide_eq_false (Ne.symm h), Bool.and_false, Bool.xor_false]

/-- Settles O20: SIM looks at every bit of A but D5. -/
theorem simIgnoresDontCareBit : Obligations.SimIgnoresDontCareBit := by
  intro s t h
  rw [exec_sim_eq, Host.Outcome.next.injEq] at h
  subst h
  simp only [exec_sim_eq, getLsbD_xor_bit5, ne_eq, Nat.reduceEqDiff, not_false_eq_true, OfNat.zero_ne_ofNat,
    OfNat.one_ne_ofNat]

end Sys2Proof.Machine
end

section
/-! PROOFS. The branching instructions (42_branch.md). The flag columns of the source are the machine's conditions, so the
conditional instructions are the unconditional ones behind a condition. Calls and restarts are one push and one jump,
whose effect is read off `callTo_cases`. -/

namespace Sys2Proof.Machine

/-! ## The flag columns are the conditions -/

theorem conditionalJumps_spec : ∀ p ∈ conditionalJumps, ∃ k : Cond,
    (∀ f, p.2 f = k.holds f) ∧ ∀ addr s, exec (p.1 addr) s = jumpIf k addr s := by
  simp only [conditionalJumps, List.forall_mem_cons, beq_true, beq_false]
  exact ⟨⟨.c, fun _ => rfl, fun _ _ => rfl⟩, ⟨.nc, fun _ => rfl, fun _ _ => rfl⟩, ⟨.p, fun _ => rfl, fun _ _ => rfl⟩,
    ⟨.m, fun _ => rfl, fun _ _ => rfl⟩, ⟨.z, fun _ => rfl, fun _ _ => rfl⟩, ⟨.nz, fun _ => rfl, fun _ _ => rfl⟩,
    ⟨.pe, fun _ => rfl, fun _ _ => rfl⟩, ⟨.po, fun _ => rfl, fun _ _ => rfl⟩,
    List.forall_mem_nil _⟩

theorem conditionalCalls_spec : ∀ p ∈ conditionalCalls, ∃ k : Cond,
    (∀ f, p.2 f = k.holds f) ∧ ∀ addr s, exec (p.1 addr) s = callIf k addr s := by
  simp only [conditionalCalls, List.forall_mem_cons, beq_true, beq_false]
  exact ⟨⟨.c, fun _ => rfl, fun _ _ => rfl⟩, ⟨.nc, fun _ => rfl, fun _ _ => rfl⟩, ⟨.p, fun _ => rfl, fun _ _ => rfl⟩,
    ⟨.m, fun _ => rfl, fun _ _ => rfl⟩, ⟨.z, fun _ => rfl, fun _ _ => rfl⟩, ⟨.nz, fun _ => rfl, fun _ _ => rfl⟩,
    ⟨.pe, fun _ => rfl, fun _ _ => rfl⟩, ⟨.po, fun _ => rfl, fun _ _ => rfl⟩,
    List.forall_mem_nil _⟩

theorem conditionalReturns_spec : ∀ p ∈ conditionalReturns, ∃ k : Cond,
    (∀ f, p.2 f = k.holds f) ∧ ∀ s, exec p.1 s = returnIf k s := by
  simp only [conditionalReturns, List.forall_mem_cons, beq_true, beq_false]
  exact ⟨⟨.c, fun _ => rfl, fun _ => rfl⟩, ⟨.nc, fun _ => rfl, fun _ => rfl⟩, ⟨.p, fun _ => rfl, fun _ => rfl⟩,
    ⟨.m, fun _ => rfl, fun _ => rfl⟩, ⟨.z, fun _ => rfl, fun _ => rfl⟩, ⟨.nz, fun _ => rfl, fun _ => rfl⟩,
    ⟨.pe, fun _ => rfl, fun _ => rfl⟩, ⟨.po, fun _ => rfl, fun _ => rfl⟩,
    List.forall_mem_nil _⟩

/-- A conditional call does nothing where its flag does not agree. -/
theorem exec_conditionalCall_of_false {p : (Addr → Instr) × (Flags → Bool)} (hp : p ∈ conditionalCalls) {s : State}
    (h : p.2 s.flags = false) (addr : Addr) : exec (p.1 addr) s = .next s := by
  obtain ⟨k, hk, he⟩ := conditionalCalls_spec p hp
  rw [he, callIf, ← hk, h, if_neg Bool.false_ne_true]

/-- A conditional call is a call where its flag agrees. -/
theorem exec_conditionalCall_of_true {p : (Addr → Instr) × (Flags → Bool)} (hp : p ∈ conditionalCalls) {s : State}
    (h : p.2 s.flags = true) (addr : Addr) : exec (p.1 addr) s = settle (callTo addr s) := by
  obtain ⟨k, hk, he⟩ := conditionalCalls_spec p hp
  rw [he, callIf, ← hk, h, if_pos rfl]

/-- A conditional return does nothing where its flag does not agree. -/
theorem exec_conditionalReturn_of_false {p : Instr × (Flags → Bool)} (hp : p ∈ conditionalReturns) {s : State}
    (h : p.2 s.flags = false) : exec p.1 s = .next s := by
  obtain ⟨k, hk, he⟩ := conditionalReturns_spec p hp
  rw [he, returnIf, ← hk, h, if_neg Bool.false_ne_true]

/-- A conditional return is a return where its flag agrees. -/
theorem exec_conditionalReturn_of_true {p : Instr × (Flags → Bool)} (hp : p ∈ conditionalReturns) {s : State}
    (h : p.2 s.flags = true) : exec p.1 s = settle (returnFrom s) := by
  obtain ⟨k, hk, he⟩ := conditionalReturns_spec p hp
  rw [he, returnIf, ← hk, h, if_pos rfl]

/-! ## Jumps -/

/-- Settles O22. -/
theorem jumpInstructions : Obligations.JumpInstructions := by
  refine fun s addr => ⟨rfl, fun p hp => ?_⟩
  obtain ⟨k, hk, he⟩ := conditionalJumps_spec p hp
  rw [he, hk]
  obtain ⟨h, e⟩ | ⟨h, e⟩ := jumpIf_cases k addr s
  · rw [e, h]; rfl
  · rw [e, h]; rfl

/-- Settles O23. -/
theorem pchlInstruction : Obligations.PchlInstruction :=
  fun s => ⟨s.setPc s.hl, rfl, rfl, ofBytes_toNat s.l s.h⟩

/-! ## Calls -/

theorem exec_call (addr : Addr) (s : State) : exec (.call addr) s = settle (callTo addr s) := rfl

/-- A push of PC and a jump are what a call does to a state. -/
theorem callEffect_of_pushed {s u : State} (hwf : Memory.wf s.mem = true) (P : Pushed s s.pc u) (target : Addr) :
    CallEffect s target (u.setPc target) := by
  refine ⟨?_, P.hi hwf, P.lo hwf, P.other⟩
  rw [P.frame]; rfl

/-- A call completes where both stack bytes have memory. -/
theorem settle_callTo_of_pushable {s : State} (h : s.pushable) (target : Addr) :
    ∃ u, settle (callTo target s) = .next (u.setPc target) ∧ Pushed s s.pc u := by
  obtain ⟨-, -, u, e, P⟩ | ⟨ha, -⟩ | ⟨-, ha, -⟩ := callTo_cases target s
  · exact ⟨u, settle_eq_next.mpr e, P⟩
  · exact absurd ha h.1
  · exact absurd ha h.2

theorem settle_callTo_effect {s : State} (hwf : Memory.wf s.mem = true) (h : s.pushable) (target : Addr) :
    ∃ t, settle (callTo target s) = .next t ∧ CallEffect s target t := by
  obtain ⟨u, e, P⟩ := settle_callTo_of_pushable h target
  exact ⟨_, e, callEffect_of_pushed hwf P target⟩

/-- Settles O24. -/
theorem callInstruction : Obligations.CallInstruction :=
  fun _ addr hwf h => settle_callTo_effect hwf h addr

/-- Settles O25. -/
theorem conditionalCallInstructions : Obligations.ConditionalCallInstructions := by
  refine fun s addr p hp => ⟨fun h => exec_conditionalCall_of_false hp h addr, fun h hwf hpush => ?_⟩
  rw [exec_conditionalCall_of_true hp h]
  exact settle_callTo_effect hwf hpush addr

theorem restartAddr_eq (n : BitVec 3) : restartAddr n = BitVec.ofNat 16 (8 * n.toNat) := by
  rw [← restartAddr_toNat, BitVec.ofNat_toNat, BitVec.setWidth_eq]

/-- Settles O26. -/
theorem restartInstruction : Obligations.RestartInstruction := by
  intro s n hwf h
  rw [exec_rst, restartAddr_eq]
  exact settle_callTo_effect hwf h _

/-! ## Returns -/

theorem exec_ret (s : State) : exec .ret s = settle (returnFrom s) := rfl

theorem pop16_of_poppable {s : State} (h : s.poppable) :
    pop16 s = .ok (ofBytes (s.byteAt s.sp) (s.byteAt (s.sp + 1)), s.setSp (s.sp + 2)) := by
  obtain ⟨-, -, e⟩ | ⟨ha, -⟩ | ⟨-, ha, -⟩ := pop16_cases s
  · exact e
  · exact absurd ha h.1
  · exact absurd ha h.2

theorem returnFrom_of_pop16 {s t : State} {v : Addr} (h : pop16 s = .ok (v, t)) : returnFrom s = .ok (t.setPc v) := by
  unfold returnFrom
  rw [h]

/-- A return completes where both stack bytes have memory. -/
theorem settle_returnFrom_of_poppable {s : State} (h : s.poppable) :
    settle (returnFrom s) =
      .next { s with pc := ofBytes (s.byteAt s.sp) (s.byteAt (s.sp + 1)), sp := s.sp + 2 } := by
  rw [returnFrom_of_pop16 (pop16_of_poppable h)]; rfl

/-- Settles O27. -/
theorem returnInstructions : Obligations.ReturnInstructions := by
  refine fun s => ⟨fun h => ⟨_, settle_returnFrom_of_poppable h, rfl, ofBytes_toNat _ _⟩, fun p hp =>
    ⟨fun h => exec_conditionalReturn_of_false hp h, fun h hpop => ?_⟩⟩
  rw [exec_conditionalReturn_of_true hp h]
  exact ⟨_, settle_returnFrom_of_poppable hpop, rfl, ofBytes_toNat _ _⟩

/-! ## Stack bytes without memory -/

theorem settle_callTo_of_absent_hi {s : State} (h : s.kindAt (s.sp - 1) = .absent) (target : Addr) :
    settle (callTo target s) = .refused (.absentMemory (s.sp - 1)) := by
  obtain ⟨hp, -⟩ | ⟨-, e⟩ | ⟨hp, -⟩ := callTo_cases target s
  · exact absurd h hp
  · exact settle_eq_refused.mpr e
  · exact absurd h hp

theorem settle_callTo_of_absent_lo {s : State} (h1 : s.present (s.sp - 1)) (h2 : s.kindAt (s.sp - 2) = .absent)
    (target : Addr) : settle (callTo target s) = .refused (.absentMemory (s.sp - 2)) := by
  obtain ⟨-, hp, -⟩ | ⟨ha, -⟩ | ⟨-, -, e⟩ := callTo_cases target s
  · exact absurd h2 hp
  · exact absurd ha h1
  · exact settle_eq_refused.mpr e

theorem settle_returnFrom_of_absent_lo {s : State} (h : s.kindAt s.sp = .absent) :
    settle (returnFrom s) = .refused (.absentMemory s.sp) := by
  obtain ⟨hp, -⟩ | ⟨-, e⟩ | ⟨hp, -⟩ := returnFrom_cases s
  · exact absurd h hp
  · exact settle_eq_refused.mpr e
  · exact absurd h hp

theorem settle_returnFrom_of_absent_hi {s : State} (h1 : s.present s.sp) (h2 : s.kindAt (s.sp + 1) = .absent) :
    settle (returnFrom s) = .refused (.absentMemory (s.sp + 1)) := by
  obtain ⟨-, hp, -⟩ | ⟨ha, -⟩ | ⟨-, -, e⟩ := returnFrom_cases s
  · exact absurd h2 hp
  · exact absurd ha h1
  · exact settle_eq_refused.mpr e

/-- Settles O28: CALL, RST and the conditional calls taken are `callTo`, RET and the conditional returns taken
`returnFrom`. -/
theorem absentStackRefused : Obligations.AbsentStackRefused := by
  intro s addr n
  refine ⟨fun h => ⟨?_, ?_, fun p hp ht => ?_⟩, fun h1 h2 => ⟨?_, ?_, fun p hp ht => ?_⟩,
    fun h => ⟨?_, fun p hp ht => ?_⟩, fun h1 h2 => ⟨?_, fun p hp ht => ?_⟩⟩
  · exact settle_callTo_of_absent_hi h _
  · exact settle_callTo_of_absent_hi h _
  · rw [exec_conditionalCall_of_true hp ht]; exact settle_callTo_of_absent_hi h _
  · exact settle_callTo_of_absent_lo h1 h2 _
  · exact settle_callTo_of_absent_lo h1 h2 _
  · rw [exec_conditionalCall_of_true hp ht]; exact settle_callTo_of_absent_lo h1 h2 _
  · exact settle_returnFrom_of_absent_lo h
  · rw [exec_conditionalReturn_of_true hp ht]; exact settle_returnFrom_of_absent_lo h
  · exact settle_returnFrom_of_absent_hi h1 h2
  · rw [exec_conditionalReturn_of_true hp ht]; exact settle_returnFrom_of_absent_hi h1 h2

/-! ## A pop after a push -/

theorem present_of_ram {s : State} {p : Addr} (h : s.kindAt p = .ram) : s.present p := by
  rw [State.present, h]; decide

theorem pushable_of_ram {s : State} (h1 : s.kindAt (s.sp - 1) = .ram) (h2 : s.kindAt (s.sp - 2) = .ram) : s.pushable :=
  ⟨present_of_ram h1, present_of_ram h2⟩

/-- A push that goes through is a push in the sense of `Pushed`. -/
theorem pushed_of_push16 {s t : State} {v : Addr} (h : push16 s v = .ok t) : Pushed s v t := by
  obtain ⟨-, -, u, e, P⟩ | ⟨-, e⟩ | ⟨-, -, e⟩ := push16_cases s v
  · cases h.symm.trans e
    exact P
  · cases h.symm.trans e
  · cases h.symm.trans e

theorem Pushed.sp_eq {s t : State} {v : Addr} (P : Pushed s v t) : t.sp = s.sp - 2 := by rw [P.frame]

theorem Pushed.cfg_eq {s t : State} {v : Addr} (P : Pushed s v t) : t.cfg = s.cfg := by rw [P.frame]

/-- Settles O30: the pop reads, at SP and SP + 1 of the later state, the bytes the push stored at SP - 2 and SP - 1. -/
theorem pushThenPopRestores : Obligations.PushThenPopRestores := by
  intro s t u v hwf h1 h2 hpush hsp hcfg hlo hhi
  have P := pushed_of_push16 hpush
  have hkind : ∀ a, u.kindAt a = s.kindAt a := State.kindAt_congr (hcfg.trans P.cfg_eq)
  have esp : u.sp = s.sp - 2 := hsp.trans P.sp_eq
  have esp1 : u.sp + 1 = s.sp - 1 := by rw [esp]; bv_omega
  have esp2 : u.sp + 2 = s.sp := by rw [esp]; bv_omega
  have hpop : u.poppable := by
    refine ⟨?_, ?_⟩
    · rw [State.present, hkind, esp]; exact present_of_ram h2
    · rw [State.present, hkind, esp1]; exact present_of_ram h1
  rw [pop16_of_poppable hpop, esp2]
  have elo : u.byteAt u.sp = loByte v := by
    rw [hsp, hlo, P.sp_eq, P.lo hwf, if_pos h2]
  have ehi : u.byteAt (u.sp + 1) = hiByte v := by
    rw [hsp, hhi, ← hsp, esp1, P.hi hwf, if_pos h1]
  rw [elo, ehi, ofBytes_lo_hi]
  rfl

/-- Settles O31: the state a CALL leaves is one that O30 speaks of. -/
theorem callThenReturnResumes : Obligations.CallThenReturnResumes := by
  intro s t addr hwf h1 h2 h
  rw [exec_call, settle_eq_next, callTo] at h
  cases hp : push16 s s.pc with
  | error r => rw [hp] at h; cases h
  | ok u =>
    rw [hp] at h
    cases h
    have hpop := pushThenPopRestores s u (u.setPc addr) s.pc hwf h1 h2 hp rfl rfl rfl rfl
    rw [exec_ret, returnFrom_of_pop16 hpop]
    rfl

/-- Settles O32: the stack addresses of a call at 0001H and 0000H and of a return at FFFFH, computed modulo 2^16. -/
theorem stackWrapsAtAddressEnds : Obligations.StackWrapsAtAddressEnds := by
  intro s addr hwf h0 hE hF
  refine ⟨fun hsp => ?_, fun hsp => ?_, fun hsp => ?_⟩
  · have e1 : s.sp - 1 = 0x0000 := by rw [hsp]; rfl
    have e2 : s.sp - 2 = 0xFFFF := by rw [hsp]; rfl
    obtain ⟨u, e, P⟩ := settle_callTo_of_pushable (pushable_of_ram (e1 ▸ h0) (e2 ▸ hF)) addr
    refine ⟨_, e, P.sp_eq.trans e2, ?_, ?_⟩
    · have hi := P.hi hwf
      rwa [e1, if_pos h0] at hi
    · have lo := P.lo hwf
      rwa [e2, if_pos hF] at lo
  · have e1 : s.sp - 1 = 0xFFFF := by rw [hsp]; rfl
    have e2 : s.sp - 2 = 0xFFFE := by rw [hsp]; rfl
    obtain ⟨u, e, P⟩ := settle_callTo_of_pushable (pushable_of_ram (e1 ▸ hF) (e2 ▸ hE)) addr
    refine ⟨_, e, P.sp_eq.trans e2, ?_, ?_⟩
    · have hi := P.hi hwf
      rwa [e1, if_pos hF] at hi
    · have lo := P.lo hwf
      rwa [e2, if_pos hE] at lo
  · have e1 : s.sp + 1 = 0x0000 := by rw [hsp]; rfl
    have e2 : s.sp + 2 = 0x0001 := by rw [hsp]; rfl
    have hpop : s.poppable := ⟨hsp ▸ present_of_ram hF, e1 ▸ present_of_ram h0⟩
    rw [exec_ret, settle_returnFrom_of_poppable hpop, e1, e2, hsp]

/-! ## The bytes the spec refuses -/

/-- Settles O33. -/
theorem outOfScopeInstructionsRefused : Obligations.OutOfScopeInstructionsRefused := by
  intro s
  repeat' apply And.intro
  all_goals intros; rfl

/-- Settles O34. -/
theorem undefinedBytesRefused : Obligations.UndefinedBytesRefused := fun _ _ _ => rfl

end Sys2Proof.Machine
end

section
/-! PROOFS. Everything an instruction can do, said once (`exec_outcome`), and from it which cells each instruction may
write and that the instructions of the scope complete where memory is everywhere. -/

namespace Sys2Proof.Machine

/-! ## The ways an instruction goes on or is refused -/

/-- What an instruction that goes on does to a state: it writes A and flags, or control cells, or it jumps, calls or
returns. -/
inductive Effect (i : Instr) (s : State) : State → Prop
  | data (a : Byte) (f : Flags) (ha : writesA i = false → a = s.a) (hf : writesFlags i = false → f = s.flags) :
      Effect i s { s with a := a, flags := f }
  | hlt (hi : i = .hlt) : Effect i s (s.setHalted true)
  | di (hi : i = .di) : Effect i s { s with ie := false, eihold := false }
  | ei (hi : i = .ei) : Effect i s { s with ie := true, eihold := s.cfg.eiDelay }
  | sim (hi : i = .sim) (m75 m65 m55 i75 sod : Bool) :
      Effect i s { s with m75 := m75, m65 := m65, m55 := m55, i75 := i75, sod := sod }
  | jump (hi : isBranch i = true) (target : Addr) : Effect i s (s.setPc target)
  | call (hi : isBranch i = true) (target : Addr) (u : State) (P : Pushed s s.pc u) : Effect i s (u.setPc target)
  | ret (hi : isBranch i = true) (target : Addr) : Effect i s ((s.setSp (s.sp + 2)).setPc target)

/-- The outcomes of an instruction: an effect, or one of three refusals, each with its cause. -/
inductive ExecOutcome (i : Instr) (s : State) : Host.Outcome State Fault Refusal → Prop
  | next {t : State} (h : Effect i s t) : ExecOutcome i s (.next t)
  | absent {a : Addr} (h : s.kindAt a = .absent) : ExecOutcome i s (.refused (.absentMemory a))
  | excluded (h : i.isExcluded = true) : ExecOutcome i s (.refused (.outOfScopeOpcode (s.pc - 1) (opcode i)))
  | undefined {op : Byte} (h : i = .undefined op) : ExecOutcome i s (.refused (.undefinedOpcode (s.pc - 1) op))

/-! ## The shared forms -/

theorem withOperand_outcome {i : Instr} {s : State} (x : Operand) {act : Byte → State}
    (h : ∀ v, Effect i s (act v)) : ExecOutcome i s (withOperand x s act) := by
  obtain ⟨v, -, e⟩ | ⟨-, ha, e⟩ := withOperand_cases x s act
  · rw [e]; exact .next (h v)
  · rw [e]; exact .absent ha

theorem jumpIf_outcome {i : Instr} (hi : isBranch i = true) (k : Cond) (addr : Addr) (s : State) :
    ExecOutcome i s (jumpIf k addr s) := by
  obtain ⟨-, e⟩ | ⟨-, e⟩ := jumpIf_cases k addr s
  · rw [e]; exact .next (.jump hi addr)
  · rw [e]; exact .next (.jump hi s.pc)

theorem callTo_outcome {i : Instr} (hi : isBranch i = true) (target : Addr) (s : State) :
    ExecOutcome i s (settle (callTo target s)) := by
  obtain ⟨-, -, u, e, P⟩ | ⟨ha, e⟩ | ⟨-, ha, e⟩ := callTo_cases target s
  · rw [e]; exact .next (.call hi target u P)
  · rw [e]; exact .absent ha
  · rw [e]; exact .absent ha

theorem callIf_outcome {i : Instr} (hi : isBranch i = true) (k : Cond) (addr : Addr) (s : State) :
    ExecOutcome i s (callIf k addr s) := by
  obtain ⟨-, e⟩ | ⟨-, e⟩ := callIf_cases k addr s
  · rw [e]; exact callTo_outcome hi addr s
  · rw [e]; exact .next (.jump hi s.pc)

theorem returnFrom_outcome {i : Instr} (hi : isBranch i = true) (s : State) :
    ExecOutcome i s (settle (returnFrom s)) := by
  obtain ⟨-, -, e⟩ | ⟨ha, e⟩ | ⟨-, ha, e⟩ := returnFrom_cases s
  · rw [e]; exact .next (.ret hi _)
  · rw [e]; exact .absent ha
  · rw [e]; exact .absent ha

theorem returnIf_outcome {i : Instr} (hi : isBranch i = true) (k : Cond) (s : State) :
    ExecOutcome i s (returnIf k s) := by
  obtain ⟨-, e⟩ | ⟨-, e⟩ := returnIf_cases k s
  · rw [e]; exact returnFrom_outcome hi s
  · rw [e]; exact .next (.jump hi s.pc)

/-! ## The instructions -/

/-- Everything an instruction can do. -/
theorem exec_outcome (i : Instr) (s : State) : ExecOutcome i s (exec i s) := by
  cases i with
  | ana x | xra x | ora x => exact withOperand_outcome x fun v => .data _ _ nofun nofun
  | cmp x => exact withOperand_outcome x fun v => .data s.a _ (fun _ => rfl) nofun
  | ani data | xri data | ori data => exact .next (.data _ _ nofun nofun)
  | cpi data => exact .next (.data s.a _ (fun _ => rfl) nofun)
  | rlc | rrc | ral | rar => exact .next (.data _ _ nofun nofun)
  | cma | rim => exact .next (.data _ s.flags nofun fun _ => rfl)
  | cmc | stc => exact .next (.data s.a _ (fun _ => rfl) nofun)
  | nop => exact .next (.data s.a s.flags (fun _ => rfl) fun _ => rfl)
  | hlt => exact .next (.hlt rfl)
  | di => exact .next (.di rfl)
  | ei => exact .next (.ei rfl)
  | sim => rw [exec_sim_eq]; exact .next (.sim rfl _ _ _ _ _)
  | jmp addr => exact .next (.jump rfl addr)
  | pchl => exact .next (.jump rfl s.hl)
  | jnz addr | jz addr | jnc addr | jc addr | jpo addr | jpe addr | jp addr | jm addr =>
    exact jumpIf_outcome rfl _ addr s
  | call addr => exact callTo_outcome rfl addr s
  | rst n => exact callTo_outcome rfl (restartAddr n) s
  | cnz addr | cz addr | cnc addr | cc addr | cpo addr | cpe addr | cp addr | cm addr =>
    exact callIf_outcome rfl _ addr s
  | ret => exact returnFrom_outcome rfl s
  | rnz | rz | rnc | rc | rpo | rpe | rp | rm => exact returnIf_outcome rfl _ s
  | undefined op => exact .undefined rfl
  | _ => exact .excluded rfl

theorem effect_of_exec {i : Instr} {s t : State} (h : exec i s = .next t) : Effect i s t := by
  have := exec_outcome i s
  rw [h] at this
  cases this with
  | next e => exact e

/-! ## The statements -/

/-- Settles O52, effect by effect; a call's push changes SP and memory alone. -/
theorem controlCellWriters : Obligations.ControlCellWriters := by
  intro i s t h
  cases effect_of_exec h with
  | data a f ha hf => simp
  | hlt hi => simp [hi]
  | di hi => simp [hi]
  | ei hi => simp [hi]
  | sim hi => simp [hi]
  | jump hi target => simp
  | call hi target u P => rw [P.frame]; simp
  | ret hi target => simp

/-- Settles O53. -/
theorem accumulatorAndFlagWriters : Obligations.AccumulatorAndFlagWriters := by
  intro i s t h
  cases effect_of_exec h with
  | data a f ha hf => exact ⟨hf, ha, fun _ => ⟨rfl, rfl, rfl⟩⟩
  | hlt | di | ei | sim => exact ⟨fun _ => rfl, fun _ => rfl, fun _ => ⟨rfl, rfl, rfl⟩⟩
  | jump hi | ret hi => exact ⟨fun _ => rfl, fun _ => rfl, fun hb => nomatch hb.symm.trans hi⟩
  | call hi target u P =>
    rw [P.frame]
    exact ⟨fun _ => rfl, fun _ => rfl, fun hb => nomatch hb.symm.trans hi⟩

/-- An excluded well-formed instruction has an opcode outside R79 and R81. -/
theorem opcode_of_isExcluded {i : Instr} (hwf : i.wf = true) (h : i.isExcluded = true) :
    opcode i ∉ scopeBytes ∧ opcode i ∉ undefinedBytes := by
  rw [← decodeBytes_opcode hwf (List.prefix_refl _)] at h
  exact (isExcluded_decodeBytes _ _ _).mp h

theorem not_mem_scopeBytes_of_undefined {op : Byte} (h : op ∈ undefinedBytes) : op ∉ scopeBytes := by
  revert op; decide +kernel

/-- Settles O55: the refusals need an absent address or an opcode outside the scope. -/
theorem scopeInstructionsAllComplete : Obligations.ScopeInstructionsAllComplete := by
  intro i s hwf hin hpresent
  have hop : opcode i ∈ scopeBytes := List.contains_iff_mem.mp hin
  have ho := exec_outcome i s
  generalize exec i s = o at ho ⊢
  cases ho with
  | next e => exact ⟨_, rfl⟩
  | absent ha => exact absurd ha (hpresent _)
  | excluded he => exact absurd hop (opcode_of_isExcluded hwf he).1
  | undefined hi =>
    subst hi
    exact absurd hop (not_mem_scopeBytes_of_undefined (List.contains_iff_mem.mp hwf))

end Sys2Proof.Machine
end

section
/-! PROOFS. The fetch in a step (30_encoding.md R85): which instruction runs, and which refusals a byte at PC leads to. -/

namespace Sys2Proof.Machine

theorem executeNext_of_fetch {s : State} {i : Instr} {len : Nat} (h : fetch s = .ok (i, len)) :
    executeNext s = exec i (s.advance len) := by
  unfold executeNext
  rw [h]

theorem executeNext_of_fetch_error {s : State} {r : Refusal} (h : fetch s = .error r) :
    executeNext s = .refused r := by
  unfold executeNext
  rw [h]

/-- What a fetch finds is what the decoder builds from the byte at PC. -/
theorem fetch_eq_ok {s : State} {i : Instr} {len : Nat} (h : fetch s = .ok (i, len)) :
    len = fetchLength (s.byteAt s.pc) ∧ ∃ b2 b3, i = decodeBytes (s.byteAt s.pc) b2 b3 := by
  obtain ⟨b2, b3, -, e, -⟩ | ⟨a, -, e, -⟩ := fetch_cases s
  · cases h.symm.trans e
    exact ⟨rfl, b2, b3, rfl⟩
  · cases h.symm.trans e

theorem opcode_of_fetch {s : State} {i : Instr} {len : Nat} (h : fetch s = .ok (i, len)) :
    opcode i = s.byteAt s.pc := by
  obtain ⟨-, b2, b3, rfl⟩ := fetch_eq_ok h
  exact opcode_decodeBytes _ _ _

theorem wf_of_fetch {s : State} {i : Instr} {len : Nat} (h : fetch s = .ok (i, len)) : i.wf = true := by
  obtain ⟨-, b2, b3, rfl⟩ := fetch_eq_ok h
  exact wf_decodeBytes _ _ _

theorem fetch_of_absent {s : State} (h : s.kindAt s.pc = .absent) : fetch s = .error (.absentMemory s.pc) := by
  unfold fetch
  rw [memRead_of_absent h]

/-- A one-byte instruction is read without a look at the bytes behind it. -/
theorem fetch_of_length_one {s : State} (hp : s.present s.pc) (h : fetchLength (s.byteAt s.pc) = 1) :
    fetch s = .ok (decodeBytes (s.byteAt s.pc) 0 0, 1) := by
  unfold fetch
  rw [memRead_of_present hp]
  simp only [h]
  rfl

theorem advance_one_pc_sub_one (s : State) : (s.advance 1).pc - 1 = s.pc := by
  rw [State.advance_pc, BitVec.ofNat_eq_ofNat, BitVec.add_sub_cancel]

/-- A step at a one-byte instruction. -/
theorem step_of_length_one {s : State} (hx : s.executes) (hp : s.present s.pc)
    (h : fetchLength (s.byteAt s.pc) = 1) :
    step s = afterBoundary (exec (decodeBytes (s.byteAt s.pc) 0 0) (s.atCheck.advance 1)) := by
  have hf : fetch s.atCheck = .ok (decodeBytes (s.byteAt s.pc) 0 0, 1) := fetch_of_length_one hp h
  rw [step_of_executes hx, executeNext_of_fetch hf]

theorem exec_of_isExcluded {i : Instr} (h : i.isExcluded = true) (s : State) :
    exec i s = .refused (.outOfScopeOpcode (s.pc - 1) (opcode i)) := by
  cases i with
  | lxi | stax | inx | inr | dcr | mvi | dad | ldax | dcx | shld | daa | lhld | sta | lda | mov | add | adc | sub
  | sbb | pop | push | adi | aci | outp | sui | inp | sbi | xthl | xchg | sphl => rfl
  | _ => cases h

theorem exec_undefined (op : Byte) (s : State) :
    exec (.undefined op) s = .refused (.undefinedOpcode (s.pc - 1) op) := rfl

/-- Where the bytes of a well-formed instruction lie at PC, the fetch finds it. -/
theorem fetch_of_encode {i : Instr} {s : State} (hwf : i.wf = true)
    (hbytes : ∀ k, k < (encode i).length →
      s.present (s.pc + BitVec.ofNat 16 k) ∧ (encode i)[k]? = some (s.byteAt (s.pc + BitVec.ofNat 16 k))) :
    fetch s = .ok (i, (encode i).length) := by
  have hlen := length_encode hwf
  have hpos := (fetchLength_bounds (opcode i)).1
  obtain ⟨hp0, hop⟩ : s.present s.pc ∧ s.byteAt s.pc = opcode i := by
    obtain ⟨hp, hb⟩ := hbytes 0 (by omega)
    rw [BitVec.add_zero] at hp hb
    exact ⟨hp, (Option.some.inj hb).symm⟩
  have hp1 : 2 ≤ fetchLength (opcode i) → s.present (s.pc + 1) := fun h => (hbytes 1 (by omega)).1
  have hp2 : 3 ≤ fetchLength (opcode i) → s.present (s.pc + 2) := fun h => (hbytes 2 (by omega)).1
  obtain ⟨b2, b3, -, e, h2, h3⟩ | ⟨a, ha, -, hwhere⟩ := fetch_cases s
  · rw [hop] at e h2 h3
    have hpre : operandBytes i <+: [b2, b3] := by
      rw [List.prefix_iff_getElem?]
      intro k hk
      have hk' : k + 1 < (encode i).length := Nat.succ_lt_succ hk
      have hb : (operandBytes i)[k]? = some (s.byteAt (s.pc + BitVec.ofNat 16 (k + 1))) := (hbytes (k + 1) hk').2
      rw [← List.getElem?_eq_getElem hk, hb]
      match k with
      | 0 => exact congrArg some (h2 (by omega)).2
      | 1 => exact congrArg some (h3 (by omega)).2
      | k + 2 => have := (fetchLength_bounds (opcode i)).2; omega
    rw [e, hlen]
    exact congrArg (fun j => Except.ok (j, _)) (decodeBytes_opcode hwf hpre)
  · rw [hop] at hwhere
    obtain rfl | ⟨-, ⟨rfl, hl⟩ | ⟨rfl, -, hl⟩⟩ := hwhere
    · exact absurd ha hp0
    · exact absurd ha (hp1 hl)
    · exact absurd ha (hp2 hl)

/-- Settles O5: the bytes at PC are the instruction's, so the fetch finds it. -/
theorem stepRunsDecodedInstruction : Obligations.StepRunsDecodedInstruction := by
  intro i s hwf hx hbytes
  rw [step_of_executes hx, executeNext_of_fetch (fetch_of_encode (s := s.atCheck) hwf hbytes)]

/-- Settles O35: such a byte is read alone, and decodes to an instruction that is refused. -/
theorem fetchRefusals : Obligations.FetchRefusals := by
  intro s hx
  refine ⟨fun ha => ?_, fun hp hu => ?_, fun hp hu hs => ?_⟩
  · have hf : fetch s.atCheck = .error (.absentMemory s.pc) := fetch_of_absent ha
    rw [step_of_executes hx, executeNext_of_fetch_error hf]
    rfl
  · rw [step_of_length_one hx hp (fetchLength_eq_one (not_mem_scopeBytes_of_undefined hu)),
      decodeBytes_of_undefined hu, exec_undefined, advance_one_pc_sub_one]
    rfl
  · have he := (isExcluded_decodeBytes (s.byteAt s.pc) 0 0).mpr ⟨hs, hu⟩
    rw [step_of_length_one hx hp (fetchLength_eq_one hs), exec_of_isExcluded he, opcode_decodeBytes,
      advance_one_pc_sub_one]
    rfl

end Sys2Proof.Machine
end

section
/-! PROOFS. Everything a step can do, said once (`step_outcome`), and the invariants that follow from it. -/

namespace Sys2Proof.Machine

/-! ## The ways a step goes on or is refused -/

/-- What a step that goes on does: a reset, an interrupt entry, staying halted, or an instruction. -/
inductive StepEffect (s : State) : State → Prop
  | reset (hr : s.env.reset = true) : StepEffect s (resetSequence (absorb s)).passSample
  | entry (hr : s.env.reset = false) (src : Source) (ht : s.taken = some src) (target : Addr) (u : State)
      (P : Pushed (acknowledge src s.atCheck) s.pc u) : StepEffect s (u.setPc target).passSample
  | wait (hr : s.env.reset = false) (ht : s.taken = none) (hh : s.halted = true) : StepEffect s s.atCheck.passSample
  | run (hx : s.executes) {i : Instr} {len : Nat} {u : State} (hf : fetch s.atCheck = .ok (i, len))
      (he : exec i (s.atCheck.advance len) = .next u) : StepEffect s u.passSample

/-- The outcomes of a step: an effect, or one of the four refusals of 00_scope.md R10, each with its cause. -/
inductive StepOutcome (s : State) : Host.Outcome State Fault Refusal → Prop
  | next {t : State} (h : StepEffect s t) : StepOutcome s (.next t)
  | absent {a : Addr} (h : s.kindAt a = .absent) : StepOutcome s (.refused (.absentMemory a))
  | excluded (hx : s.executes) (h : s.byteAt s.pc ∉ scopeBytes) (h' : s.byteAt s.pc ∉ undefinedBytes) :
      StepOutcome s (.refused (.outOfScopeOpcode s.pc (s.byteAt s.pc)))
  | undefined (hx : s.executes) (h : s.byteAt s.pc ∈ undefinedBytes) :
      StepOutcome s (.refused (.undefinedOpcode s.pc (s.byteAt s.pc)))
  | inserted (ht : s.taken = some .intr) (h : insertedRestart s.env.inserted = none) :
      StepOutcome s (.refused (.insertedOpcode s.env.inserted))

theorem acknowledge_sp (src : Source) (s : State) : (acknowledge src s).sp = s.sp := by rw [acknowledge_eq]

theorem acknowledge_pc (src : Source) (s : State) : (acknowledge src s).pc = s.pc := by rw [acknowledge_eq]

theorem acknowledge_mem (src : Source) (s : State) : (acknowledge src s).mem = s.mem := by rw [acknowledge_eq]

theorem acknowledge_cfg (src : Source) (s : State) : (acknowledge src s).cfg = s.cfg := by rw [acknowledge_eq]

theorem acknowledge_oracle (src : Source) (s : State) : (acknowledge src s).oracle = s.oracle := by rw [acknowledge_eq]

theorem acknowledge_boundary (src : Source) (s : State) : (acknowledge src s).boundary = s.boundary := by
  rw [acknowledge_eq]

/-- The kinds of addresses where an interrupt is entered are those before the step. -/
theorem kindAt_acknowledge (src : Source) (s : State) (a : Addr) :
    (acknowledge src s.atCheck).kindAt a = s.kindAt a :=
  State.kindAt_congr (acknowledge_cfg src s.atCheck) a

/-- A step that takes a source. -/
theorem interruptEntry_outcome {s : State} {src : Source} (hr : s.env.reset = false) (ht : s.taken = some src) :
    StepOutcome s (afterBoundary (settle (interruptEntry src s.atCheck))) := by
  obtain ⟨target, e, -⟩ | ⟨rfl, hn, e⟩ := interruptEntry_cases src s.atCheck
  · rw [e]
    obtain ⟨-, -, u, e', P⟩ | ⟨ha, e'⟩ | ⟨-, ha, e'⟩ := callTo_cases target (acknowledge src s.atCheck)
    · rw [acknowledge_pc] at P
      rw [e']
      exact .next (.entry hr src ht target u P)
    · rw [kindAt_acknowledge] at ha
      rw [e']; exact .absent ha
    · rw [kindAt_acknowledge] at ha
      rw [e']; exact .absent ha
  · rw [e]; exact .inserted ht hn

/-- A step that executes the byte at PC. -/
theorem executeNext_outcome {s : State} (hx : s.executes) :
    StepOutcome s (afterBoundary (executeNext s.atCheck)) := by
  cases hf : fetch s.atCheck with
  | error r =>
    rw [executeNext_of_fetch_error hf]
    obtain ⟨_, _, -, e, -⟩ | ⟨a, ha, e, -⟩ := fetch_cases s.atCheck
    · cases hf.symm.trans e
    · cases hf.symm.trans e
      exact .absent ha
  | ok p =>
    obtain ⟨i, len⟩ := p
    rw [executeNext_of_fetch hf]
    obtain ⟨hlen, b2, b3, hi⟩ : len = fetchLength (s.byteAt s.pc) ∧ ∃ b2 b3, i = decodeBytes (s.byteAt s.pc) b2 b3 :=
      fetch_eq_ok hf
    have hop : opcode i = s.byteAt s.pc := opcode_of_fetch hf
    have ho := exec_outcome i (s.atCheck.advance len)
    generalize he : exec i (s.atCheck.advance len) = o at ho ⊢
    cases ho with
    | next _ => exact .next (.run hx hf he)
    | absent ha => exact .absent ha
    | excluded h =>
      rw [hi] at h
      obtain ⟨hs, hu⟩ := (isExcluded_decodeBytes _ _ _).mp h
      rw [hlen, fetchLength_eq_one hs, advance_one_pc_sub_one, hop]
      exact .excluded hx hs hu
    | @undefined op h =>
      subst h
      obtain rfl : op = s.byteAt s.pc := hop
      have hu : s.byteAt s.pc ∈ undefinedBytes := List.contains_iff_mem.mp (wf_of_fetch hf)
      rw [hlen, fetchLength_eq_one (not_mem_scopeBytes_of_undefined hu), advance_one_pc_sub_one]
      exact .undefined hx hu

/-- Everything a step can do. -/
theorem step_outcome (s : State) : StepOutcome s (step s) := by
  obtain ⟨hr, e⟩ | ⟨hr, src, ht, e⟩ | ⟨hr, ht, hh, e⟩ | ⟨hr, ht, hh, e⟩ := step_cases s
  · rw [e]; exact .next (.reset hr)
  · rw [e]; exact interruptEntry_outcome hr ht
  · rw [e]; exact .next (.wait hr ht hh)
  · rw [e]; exact executeNext_outcome ⟨hr, ht, hh⟩

theorem effect_of_step {s t : State} (h : step s = .next t) : StepEffect s t := by
  have := step_outcome s
  rw [h] at this
  cases this with
  | next e => exact e

end Sys2Proof.Machine
end

section
/-! PROOFS. What every step keeps, read off the ways a step can go (`effect_of_step`). -/

namespace Sys2Proof.Machine

/-! ## Refusals -/

/-- Settles O56: the outcomes of a step, in the terms of the statement. -/
theorem stepRefusalsAreTheFour : Obligations.StepRefusalsAreTheFour := by
  intro s
  have ho := step_outcome s
  generalize step s = o at ho ⊢
  cases ho with
  | next e => exact .inl ⟨_, rfl⟩
  | absent ha => exact .inr ⟨_, rfl, .inl ⟨_, rfl, ha⟩⟩
  | excluded hx hs hu => exact .inr ⟨_, rfl, .inr (.inl ⟨hx, rfl, hs, hu⟩)⟩
  | undefined hx hu => exact .inr ⟨_, rfl, .inr (.inr (.inl ⟨hx, rfl, hu⟩))⟩
  | inserted ht hn =>
    refine .inr ⟨_, rfl, .inr (.inr (.inr ⟨ht, rfl, fun n hb => ?_⟩))⟩
    rw [insertedRestart_eq_some.mpr hb] at hn
    cases hn

/-! ## Configuration, environment and registers -/

/-- Settles O48. -/
theorem stepKeepsConfiguration : Obligations.StepKeepsConfiguration := by
  intro s t h
  cases effect_of_step h with
  | reset => simp [resetSequence, absorb]
  | wait => simp
  | entry hr src ht target u P =>
    rw [P.frame]
    simp [acknowledge_cfg, acknowledge_oracle, acknowledge_boundary]
  | run hx hf he =>
    obtain ⟨-, -, -, -, hcfg, horacle, hboundary, -⟩ := controlCellWriters _ _ _ he
    simp [hcfg, horacle, hboundary]

/-- Settles O49. -/
theorem registersBToLConstant : Obligations.RegistersBToLConstant := by
  intro s t hr h
  cases effect_of_step h with
  | reset hr' => exact nomatch hr.symm.trans hr'
  | wait => simp
  | entry hr src ht target u P =>
    rw [P.frame, acknowledge_atCheck]
    simp
  | run hx hf he =>
    obtain ⟨-, -, -, -, -, -, -, hdraws, hb, hc, hd, he', hh, hl⟩ := controlCellWriters _ _ _ he
    simp [hb, hc, hd, he', hh, hl, hdraws]

/-! ## Memory -/

/-- What one push makes of the memory and SP of a state. -/
structure PushedOnto (s t : State) : Prop where
  sp    : t.sp = s.sp - 2
  other : ∀ a, a ≠ s.sp - 1 → a ≠ s.sp - 2 → t.byteAt a = s.byteAt a
  rom   : ∀ a, s.kindAt a ≠ .ram → t.byteAt a = s.byteAt a
  wf    : Memory.wf s.mem = true → Memory.wf t.mem = true

/-- A push onto a state with the same memory, SP and configuration. -/
theorem PushedOnto.of_pushed {s s' u t : State} {v : Addr} (P : Pushed s' v u) (hsp : s'.sp = s.sp)
    (hmem : s'.mem = s.mem) (hcfg : s'.cfg = s.cfg) (htsp : t.sp = u.sp) (htmem : t.mem = u.mem) :
    PushedOnto s t := by
  have hbyte : ∀ a, s'.byteAt a = s.byteAt a := State.byteAt_congr hmem
  have htbyte : ∀ a, t.byteAt a = u.byteAt a := State.byteAt_congr htmem
  refine ⟨by rw [htsp, P.sp_eq, hsp], fun a h1 h2 => ?_, fun a ha => ?_, fun hwf => ?_⟩
  · rw [htbyte, P.other a (hsp ▸ h1) (hsp ▸ h2), hbyte]
  · rw [htbyte, P.rom a (by rwa [State.kindAt_congr hcfg]), hbyte]
  · rw [htmem]
    exact P.wf (by rwa [hmem])

/-- A step leaves memory as it was, or makes one push. -/
theorem step_mem {s t : State} (h : step s = .next t) : t.mem = s.mem ∨ PushedOnto s t := by
  cases effect_of_step h with
  | reset => left; simp [resetSequence, absorb]
  | wait => left; simp
  | entry hr src ht target u P =>
    exact .inr (.of_pushed P (acknowledge_sp src _) (acknowledge_mem src _) (acknowledge_cfg src _) rfl rfl)
  | run hx hf he =>
    cases effect_of_exec he with
    | call hi target u P => exact .inr (.of_pushed P (by simp) (by simp) (by simp) rfl rfl)
    | _ => left; simp

/-- Settles O50. -/
theorem memoryWrittenOnlyByPushes : Obligations.MemoryWrittenOnlyByPushes := by
  intro s t h
  obtain hmem | P := step_mem h
  · exact ⟨fun a _ _ => State.byteAt_congr hmem a, fun ⟨a, ha⟩ => absurd (State.byteAt_congr hmem a) ha⟩
  · exact ⟨P.other, fun _ => P.sp⟩

/-- Settles O51. -/
theorem romNeverChanges : Obligations.RomNeverChanges := by
  intro s t h
  obtain hmem | P := step_mem h
  · exact fun a _ => State.byteAt_congr hmem a
  · exact P.rom

/-! ## The invariant -/

theorem step_keeps_wf {s t : State} (h : step s = .next t) (hwf : Memory.wf s.mem = true) : Memory.wf t.mem = true := by
  obtain hmem | P := step_mem h
  · rw [hmem, hwf]
  · exact P.wf hwf

/-- EIHOLD is cleared at every boundary, so only an EI executed in this step can have set it. -/
theorem step_eihold {s t : State} (h : step s = .next t) (hold : t.eihold = true) :
    t.ie = true ∧ t.halted = false ∧ t.cfg.eiDelay = true := by
  cases effect_of_step h with
  | reset | wait => cases hold
  | entry hr src ht target u P =>
    rw [P.frame, acknowledge_atCheck] at hold
    cases hold
  | run hx hf he =>
    cases effect_of_exec he with
    | ei hi =>
      obtain ⟨-, -, hhalted⟩ := hx
      simpa [hhalted] using hold
    | call hi target u P => rw [P.frame] at hold; cases hold
    | _ => cases hold

/-- Settles O47. -/
theorem stepKeepsInvariant : Obligations.StepKeepsInvariant :=
  fun _ _ hinv h => ⟨step_keeps_wf h hinv.1, step_eihold h⟩

/-! ## The halt state -/

/-- Settles O43: a step that stays waiting keeps HALTED, an instruction other than HLT does, and HLT has the opcode 76H. -/
theorem haltLeftOnlyByInterruptOrReset : Obligations.HaltLeftOnlyByInterruptOrReset := by
  intro s t h
  cases effect_of_step h with
  | reset hr => exact ⟨fun _ _ => .inl hr, fun _ h' => nomatch h'⟩
  | entry hr src ht target u P =>
    refine ⟨fun _ _ => .inr ⟨src, ht⟩, fun _ h' => ?_⟩
    rw [P.frame, acknowledge_atCheck] at h'
    cases h'
  | wait hr ht hh => simp [hh]
  | @run hx i len u hf he =>
    have hrunning : s.halted = false := hx.2.2
    refine ⟨fun h' => absurd (hrunning.symm.trans h') nofun, fun hs hu => ⟨hx, ?_⟩⟩
    by_cases hi : i = .hlt
    · subst hi
      exact (opcode_of_fetch hf).symm
    · obtain ⟨-, -, hhalted, -⟩ := controlCellWriters _ _ _ he
      simp [hhalted hi, hs] at hu

/-! ## Reset -/

/-- Settles O44. -/
theorem resetEvent : Obligations.ResetEvent :=
  fun _ h => ⟨_, _, step_of_reset h, rfl, rfl⟩

/-- Settles O45. -/
theorem resetStateValues : Obligations.ResetStateValues :=
  ⟨rfl, rfl, rfl, rfl, rfl, rfl, rfl, rfl, rfl, rfl⟩

/-- Settles O46. -/
theorem resetStateMeetsInvariant : Obligations.ResetStateMeetsInvariant :=
  ⟨rfl, nofun⟩

end Sys2Proof.Machine
end

section
/-! PROOFS. Interrupts (60_exceptions.md): which source is taken, and what its entry does. The operations on the stack do
not see the number of the boundary, so an entry is a call made in the acknowledged state at the next boundary
(`step_of_entry`), and what is known of calls applies to it. -/

namespace Sys2Proof.Machine

/-! ## Which source is taken -/

/-- The first source that can be taken, as a chain of conditions in the order of R205. -/
theorem firstSource_eq (hold : Bool) (s : State) : firstSource hold s =
    if canTake hold s .trap = true then some .trap
    else if canTake hold s .rst75 = true then some .rst75
    else if canTake hold s .rst65 = true then some .rst65
    else if canTake hold s .rst55 = true then some .rst55
    else if canTake hold s .intr = true then some .intr
    else none := by
  simp only [firstSource, List.find?_cons, List.find?_nil]
  repeat' split
  all_goals simp_all

/-- Settles O36: with IE reset or the delay running no maskable source can be taken, else each by its request and mask. -/
theorem sourceTakenByMaskAndPriority : Obligations.SourceTakenByMaskAndPriority := by
  intro hold s
  rw [firstSource_eq]
  by_cases hoff : s.ie = false ∨ hold = true
  · have hmaskable : ∀ src, src ≠ .trap → canTake hold s src = false := by
      intro src hsrc
      cases src with
      | trap => exact absurd rfl hsrc
      | rst75 | rst65 | rst55 | intr => obtain h | h := hoff <;> simp [canTake, h]
    rw [if_pos hoff, hmaskable .rst75 nofun, hmaskable .rst65 nofun, hmaskable .rst55 nofun, hmaskable .intr nofun]
    rfl
  · obtain ⟨hie, hhold⟩ := not_or.mp hoff
    simp [canTake, hie, hhold]

theorem taken_eq_trap {s : State} (h : (s.trapl || s.env.trapEvent) = true) : s.taken = some .trap := by
  rw [State.taken, sourceTakenByMaskAndPriority, State.atCheck_trapl, if_pos h]

/-- With the EI delay running and no TRAP request nothing is taken. -/
theorem taken_eq_none_of_eihold {s : State} (htrap : (s.trapl || s.env.trapEvent) = false) (hold : s.eihold = true) :
    s.taken = none := by
  rw [State.taken, sourceTakenByMaskAndPriority, State.atCheck_trapl, htrap, if_neg Bool.false_ne_true,
    if_pos (.inr hold)]

/-- Where nothing is taken no TRAP request is latched or arrives. -/
theorem trap_of_taken_eq_none {s : State} (h : s.taken = none) : (s.trapl || s.env.trapEvent) = false :=
  firstSource_eq_none.mp h .trap

/-! ## Updates the stack does not see -/

/-- An update of fields other than those a push, a call or a return reads or writes. -/
structure StackBlind (f : State → State) : Prop where
  cfg    : ∀ s, (f s).cfg = s.cfg
  mem    : ∀ s, (f s).mem = s.mem
  sp     : ∀ s, (f s).sp = s.sp
  pc     : ∀ s, (f s).pc = s.pc
  setMem : ∀ s m, (f s).setMem m = f (s.setMem m)
  setSp  : ∀ s v, (f s).setSp v = f (s.setSp v)
  setPc  : ∀ s v, (f s).setPc v = f (s.setPc v)

namespace StackBlind

variable {f : State → State} (hf : StackBlind f)
include hf

theorem memRead (s : State) (a : Addr) : memRead (f s) a = Machine.memRead s a := by
  have hkind : (f s).kindAt a = s.kindAt a := State.kindAt_congr (hf.cfg s) a
  have hbyte : (f s).byteAt a = s.byteAt a := State.byteAt_congr (hf.mem s) a
  unfold Machine.memRead
  rw [hkind, hbyte]

theorem memWrite (s : State) (a : Addr) (v : Byte) : memWrite (f s) a v = (Machine.memWrite s a v).map f := by
  have hkind : (f s).kindAt a = s.kindAt a := State.kindAt_congr (hf.cfg s) a
  unfold Machine.memWrite
  rw [hkind, hf.mem, hf.setMem]
  cases s.kindAt a <;> rfl

theorem push16 (s : State) (v : Addr) : push16 (f s) v = (Machine.push16 s v).map f := by
  unfold Machine.push16 State.pushHiAddr State.pushLoAddr
  rw [hf.sp, hf.memWrite]
  cases Machine.memWrite s (s.sp - 1) (hiByte v) with
  | error r => rfl
  | ok s1 =>
    simp only [Except.map, hf.memWrite]
    cases Machine.memWrite s1 (s.sp - 2) (loByte v) with
    | error r => rfl
    | ok s2 => exact congrArg Except.ok (hf.setSp s2 _)

theorem callTo (target : Addr) (s : State) : callTo target (f s) = (Machine.callTo target s).map f := by
  unfold Machine.callTo
  rw [hf.pc, hf.push16]
  cases Machine.push16 s s.pc with
  | error r => rfl
  | ok u => exact congrArg Except.ok (hf.setPc u target)

theorem returnFrom (s : State) : returnFrom (f s) = (Machine.returnFrom s).map f := by
  unfold Machine.returnFrom pop16
  rw [hf.sp, hf.memRead, hf.memRead]
  cases Machine.memRead s s.sp with
  | error r => rfl
  | ok lo =>
    cases Machine.memRead s (s.sp + 1) with
    | error r => rfl
    | ok hi => simp only [Except.map, hf.setSp, hf.setPc]

end StackBlind

theorem stackBlind_passSample : StackBlind State.passSample :=
  ⟨fun _ => rfl, fun _ => rfl, fun _ => rfl, fun _ => rfl, fun _ _ => rfl, fun _ _ => rfl, fun _ _ => rfl⟩

theorem afterBoundary_settle (x : Except Refusal State) :
    afterBoundary (settle x) = settle (x.map State.passSample) := by
  cases x <;> rfl

/-! ## The entry of a source taken -/

/-- The state in which a source taken makes its call, the boundary already passed. -/
def State.entering (s : State) (src : Source) : State := (acknowledge src s.atCheck).passSample

theorem State.entering_eq (s : State) (src : Source) : s.entering src =
    { s with
      ie := false, eihold := false, halted := false, boundary := s.boundary + 1
      trapl := if src = .trap then false else s.trapl || s.env.trapEvent
      i75 := if src = .rst75 then false else s.i75 || s.env.rst75Edge } := by
  rw [State.entering, acknowledge_atCheck, State.passSample, State.setBoundary]
  cases src <;> simp

theorem State.entering_sp (s : State) (src : Source) : (s.entering src).sp = s.sp := by rw [entering_eq]

theorem State.entering_mem (s : State) (src : Source) : (s.entering src).mem = s.mem := by rw [entering_eq]

theorem State.kindAt_entering (s : State) (src : Source) (a : Addr) : (s.entering src).kindAt a = s.kindAt a :=
  State.kindAt_congr (by rw [entering_eq]) a

theorem State.pushable_entering {s : State} (src : Source) (h : s.pushable) : (s.entering src).pushable := by
  rwa [pushable, present, present, kindAt_entering, kindAt_entering, entering_sp]

/-- A source that calls an address when it is taken makes that call. -/
theorem step_of_entry {s : State} {src : Source} {target : Addr} (hr : s.env.reset = false) (ht : s.taken = some src)
    (he : interruptEntry src s.atCheck = callTo target (acknowledge src s.atCheck)) :
    step s = settle (callTo target (s.entering src)) := by
  rw [step_of_taken hr ht, he, afterBoundary_settle, State.entering, stackBlind_passSample.callTo]

theorem interruptEntry_of_internal {p : Source × Addr}
    (hp : p ∈ [(Source.trap, (0x0024 : Addr)), (.rst75, 0x003C), (.rst65, 0x0034), (.rst55, 0x002C)]) (s : State) :
    interruptEntry p.1 s = callTo p.2 (acknowledge p.1 s) := by
  fin_cases hp <;> rfl

theorem interruptEntry_of_rst {s : State} {n : BitVec 3} (h : s.env.inserted = 0b11#2 ++ n ++ 0b111#3) :
    interruptEntry .intr s = callTo (restartAddr n) (acknowledge .intr s) := by
  simp only [interruptEntry, insertedRestart_eq_some.mpr h]

/-- An inserted byte that is no RST selects no restart. -/
theorem insertedRestart_eq_none {b : Byte} : insertedRestart b = none ↔ ∀ n : BitVec 3, b ≠ 0b11#2 ++ n ++ 0b111#3 := by
  rw [Option.eq_none_iff_forall_ne_some]
  exact forall_congr' fun n => not_congr insertedRestart_eq_some

/-! ## The statements -/

/-- Settles O38. -/
theorem intrEntry : Obligations.IntrEntry := by
  intro s n hr ht hins hwf hpush
  have heff := settle_callTo_effect (by rwa [State.entering_mem]) (State.pushable_entering .intr hpush) (restartAddr n)
  rw [step_of_entry hr ht (interruptEntry_of_rst hins), ← restartAddr_eq]
  simpa [State.entering_eq] using heff

/-- Settles O39: an INTR without an RST is refused before the call; any other entry is a call. -/
theorem interruptRefusals : Obligations.InterruptRefusals := by
  intro s src hr ht
  obtain ⟨target, he, hcase⟩ | ⟨rfl, hnone, he⟩ := interruptEntry_cases src s.atCheck
  · rw [step_of_entry hr ht he]
    refine ⟨fun hsrc hno => ?_, fun _ => ⟨fun ha => ?_, fun hp ha => ?_⟩⟩
    · subst hsrc
      obtain ⟨n, hn, -⟩ : ∃ n, insertedRestart s.env.inserted = some n ∧ target = restartAddr n := by
        simpa using hcase
      exact absurd (insertedRestart_eq_some.mp hn) (hno n)
    · rw [← State.entering_sp s src] at ha ⊢
      exact settle_callTo_of_absent_hi (by rwa [State.kindAt_entering]) _
    · rw [← State.entering_sp s src] at hp ha ⊢
      exact settle_callTo_of_absent_lo (by rwa [State.present, State.kindAt_entering])
        (by rwa [State.kindAt_entering]) _
  · rw [step_of_taken hr ht, he]
    refine ⟨fun _ _ => rfl, fun h => ?_⟩
    have hno := insertedRestart_eq_none.mp hnone
    obtain h | ⟨n, hn⟩ := h
    · exact absurd rfl h
    · exact absurd hn (hno n)

/-- Settles O40: TRAP has the highest priority and no condition but its request. -/
theorem trapNeverHeldOff : Obligations.TrapNeverHeldOff := by
  intro s hr htrap hpush
  have he := interruptEntry_of_internal (p := (.trap, 0x0024)) (by simp) s.atCheck
  rw [step_of_entry hr (taken_eq_trap htrap) he]
  obtain ⟨u, e, P⟩ := settle_callTo_of_pushable (State.pushable_entering .trap hpush) 0x0024
  refine ⟨_, e, rfl, ?_⟩
  rw [P.frame, State.entering_eq]
  simp

/-- Settles O42. -/
theorem haltedMachineWaits : Obligations.HaltedMachineWaits := by
  intro s hh hr ht
  rw [step_of_waiting hr ht hh, State.atCheck_eq, State.passSample, State.setBoundary]

/-! ## The EI delay -/

/-- A step at the byte FBH is an EI. -/
theorem step_of_ei {s : State} (hx : s.executes) (hp : s.present s.pc) (hb : s.byteAt s.pc = 0xFB) :
    step s = afterBoundary (exec .ei (s.atCheck.advance 1)) := by
  have hlen : fetchLength (s.byteAt s.pc) = 1 := by rw [hb]; rfl
  rw [step_of_length_one hx hp hlen, hb]
  rfl

/-- Settles O41: behind the EI EIHOLD holds off every source but TRAP, and no TRAP request is left from before it, since
the EI itself was executed. -/
theorem eiProtectsNextInstruction : Obligations.EiProtectsNextInstruction := by
  intro s t hx hp hb h
  rw [step_of_ei hx hp hb, exec_ei, afterBoundary, Host.Outcome.next.injEq] at h
  subst h
  obtain ⟨-, hnone, hhalted⟩ := hx
  refine ⟨rfl, by simp, by simp, fun hdelay hr htrap => step_of_executes ⟨hr, ?_, by simpa using hhalted⟩⟩
  refine taken_eq_none_of_eihold ?_ hdelay
  rw [htrap, Bool.or_false]
  exact trap_of_taken_eq_none hnone

end Sys2Proof.Machine

namespace Sys2Proof

open Sys2Proof.Machine

/-- Settles O37. -/
theorem interruptEntry : Obligations.InterruptEntry := by
  intro s p hp hr ht hwf hpush
  rw [step_of_entry hr ht (interruptEntry_of_internal hp _), ← State.entering_eq]
  exact settle_callTo_effect (by rwa [State.entering_mem]) (State.pushable_entering _ hpush) _

end Sys2Proof
end

section
/-! PROOFS. The auxiliary carry (10_state.md section 4). Every instruction either commutes with a write of AC, or writes AC
itself to a value that does not depend on it; so the outcome is the same but for AC (`exec_ignores_ac`). The stack does not
see AC (`StackBlind`), nor do the conditions, the fetch and the choice of a source. -/

namespace Sys2Proof.Machine

/-! ## Writes of AC, on states and on outcomes -/

theorem stackBlind_withAc (b : Bool) : StackBlind (State.withAc · b) :=
  ⟨fun _ => rfl, fun _ => rfl, fun _ => rfl, fun _ => rfl, fun _ _ => rfl, fun _ _ => rfl, fun _ _ => rfl⟩

/-- The outcome with AC reset in the state that goes on; two outcomes are the same but for AC if this is equal. -/
def nextButAc : Host.Outcome State Fault Refusal → Host.Outcome State Fault Refusal
  | .next t => .next (t.withAc false)
  | .fault f => .fault f
  | .refused r => .refused r

theorem nextButAc_eq_next {o : Host.Outcome State Fault Refusal} {t : State} :
    nextButAc o = .next t ↔ ∃ u, o = .next u ∧ u.withAc false = t := by
  cases o <;> simp [nextButAc]

theorem nextButAc_eq_refused {o : Host.Outcome State Fault Refusal} {r : Refusal} :
    nextButAc o = .refused r ↔ o = .refused r := by
  cases o <;> simp [nextButAc]

theorem nextButAc_settle_map (x : Except Refusal State) (b : Bool) :
    nextButAc (settle (x.map (State.withAc · b))) = nextButAc (settle x) := by
  cases x <;> rfl

/-! ## The shared operations and forms -/

theorem settle_callTo_ignores_ac (target : Addr) (s : State) (b : Bool) :
    nextButAc (settle (callTo target (s.withAc b))) = nextButAc (settle (callTo target s)) := by
  rw [(stackBlind_withAc b).callTo, nextButAc_settle_map]

theorem settle_returnFrom_ignores_ac (s : State) (b : Bool) :
    nextButAc (settle (returnFrom (s.withAc b))) = nextButAc (settle (returnFrom s)) := by
  rw [(stackBlind_withAc b).returnFrom, nextButAc_settle_map]

theorem Cond.holds_withAc (k : Cond) (s : State) (b : Bool) : k.holds (s.withAc b).flags = k.holds s.flags := by
  cases k <;> rfl

theorem readOperand_withAc (x : Operand) (s : State) (b : Bool) : readOperand x (s.withAc b) = readOperand x s := by
  cases x with
  | reg r => cases r <;> rfl
  | mem => rfl

theorem withOperand_ignores_ac (x : Operand) (s : State) (b : Bool) {act act' : Byte → State}
    (h : ∀ v, (act' v).withAc false = (act v).withAc false) :
    nextButAc (withOperand x (s.withAc b) act') = nextButAc (withOperand x s act) := by
  unfold withOperand
  rw [readOperand_withAc]
  cases readOperand x s with
  | error r => rfl
  | ok v => exact congrArg Host.Outcome.next (h v)

theorem jumpIf_ignores_ac (k : Cond) (addr : Addr) (s : State) (b : Bool) :
    nextButAc (jumpIf k addr (s.withAc b)) = nextButAc (jumpIf k addr s) := by
  unfold jumpIf
  rw [Cond.holds_withAc]
  cases k.holds s.flags <;> rfl

theorem callIf_ignores_ac (k : Cond) (addr : Addr) (s : State) (b : Bool) :
    nextButAc (callIf k addr (s.withAc b)) = nextButAc (callIf k addr s) := by
  unfold callIf
  rw [Cond.holds_withAc]
  cases k.holds s.flags with
  | false => rfl
  | true => exact settle_callTo_ignores_ac addr s b

theorem returnIf_ignores_ac (k : Cond) (s : State) (b : Bool) :
    nextButAc (returnIf k (s.withAc b)) = nextButAc (returnIf k s) := by
  unfold returnIf
  rw [Cond.holds_withAc]
  cases k.holds s.flags with
  | false => rfl
  | true => exact settle_returnFrom_ignores_ac s b

/-! ## The instructions -/

/-- No instruction reads AC: by its shared form where it has one; the others are refused, or compute what they write from
other cells. -/
theorem exec_ignores_ac (i : Instr) (s : State) (b : Bool) :
    nextButAc (exec i (s.withAc b)) = nextButAc (exec i s) := by
  cases i with
  | ana x | xra x | ora x | cmp x => exact withOperand_ignores_ac x s b fun _ => rfl
  | sim => rw [exec_sim_eq, exec_sim_eq]; rfl
  | jnz addr | jz addr | jnc addr | jc addr | jpo addr | jpe addr | jp addr | jm addr =>
    exact jumpIf_ignores_ac _ addr s b
  | call addr => exact settle_callTo_ignores_ac addr s b
  | rst n => exact settle_callTo_ignores_ac (restartAddr n) s b
  | cnz addr | cz addr | cnc addr | cc addr | cpo addr | cpe addr | cp addr | cm addr =>
    exact callIf_ignores_ac _ addr s b
  | ret => exact settle_returnFrom_ignores_ac s b
  | rnz | rz | rnc | rc | rpo | rpe | rp | rm => exact returnIf_ignores_ac _ s b
  | _ => rfl

/-! ## The step -/

theorem acknowledge_withAc (src : Source) (s : State) (b : Bool) :
    acknowledge src (s.withAc b) = (acknowledge src s).withAc b := by
  cases src <;> rfl

theorem executeNext_ignores_ac (s : State) (b : Bool) :
    nextButAc (executeNext (s.withAc b)) = nextButAc (executeNext s) := by
  have hfetch : fetch (s.withAc b) = fetch s := rfl
  cases hf : fetch s with
  | error r => rw [executeNext_of_fetch_error (hfetch.trans hf), executeNext_of_fetch_error hf]
  | ok p =>
    rw [executeNext_of_fetch (hfetch.trans hf), executeNext_of_fetch hf]
    exact exec_ignores_ac p.1 (s.advance p.2) b

theorem interruptEntry_ignores_ac (src : Source) (s : State) (b : Bool) :
    nextButAc (settle (interruptEntry src (s.withAc b))) = nextButAc (settle (interruptEntry src s)) := by
  have hcall : ∀ target, nextButAc (settle (callTo target (acknowledge src (s.withAc b)))) =
      nextButAc (settle (callTo target (acknowledge src s))) := fun target => by
    rw [acknowledge_withAc, settle_callTo_ignores_ac]
  have henv : (s.withAc b).env = s.env := rfl
  cases src with
  | trap | rst75 | rst65 | rst55 => exact hcall _
  | intr =>
    unfold interruptEntry
    rw [henv]
    cases insertedRestart s.env.inserted with
    | none => rfl
    | some n => exact hcall _

theorem afterBoundary_ignores_ac {o o' : Host.Outcome State Fault Refusal} (h : nextButAc o = nextButAc o') :
    nextButAc (afterBoundary o) = nextButAc (afterBoundary o') := by
  have hcomm : ∀ o, nextButAc (afterBoundary o) = afterBoundary (nextButAc o) := fun o => by cases o <;> rfl
  rw [hcomm, hcomm, h]

/-- No step reads AC: with another value of AC it goes the same way (`step_cases`). -/
theorem step_ignores_ac (s : State) (b : Bool) : nextButAc (step (s.withAc b)) = nextButAc (step s) := by
  obtain ⟨hr, e⟩ | ⟨hr, src, ht, e⟩ | ⟨hr, ht, hh, e⟩ | ⟨hr, ht, hh, e⟩ := step_cases s
  · rw [e, step_of_reset (s := s.withAc b) hr]; rfl
  · rw [e, step_of_taken (s := s.withAc b) hr ht]
    exact afterBoundary_ignores_ac (interruptEntry_ignores_ac src s.atCheck b)
  · rw [e, step_of_waiting (s := s.withAc b) hr ht hh]; rfl
  · rw [e, step_of_executes (s := s.withAc b) ⟨hr, ht, hh⟩]
    exact afterBoundary_ignores_ac (executeNext_ignores_ac s.atCheck b)

/-- Settles O54. -/
theorem auxiliaryCarryIsNeverRead : Obligations.AuxiliaryCarryIsNeverRead := by
  intro s b
  have hsame := step_ignores_ac s b
  refine ⟨fun t h => ?_, fun r h => ?_⟩
  · rw [h] at hsame
    exact nextButAc_eq_next.mp hsame
  · rw [h] at hsame
    exact nextButAc_eq_refused.mp hsame

end Sys2Proof.Machine
end

section
/-! PROOFS. Runs: what `Env` shows along a run (60_exceptions.md R202), and that a run that has ended stays ended
(70_reset_and_hazards.md R250). -/

namespace Sys2Proof.Machine

/-! ## The environment along a run -/

/-- Settles O59. -/
theorem environmentIsUnconstrained : Obligations.EnvironmentIsUnconstrained := by
  intro s listed e k n
  unfold State.sample
  rw [List.getD_eq_getElem?_getD, List.getD_eq_getElem?_getD]
  cases listed[n]? <;> exact ⟨rfl, rfl⟩

/-- A run of a step more that completes takes a first step, and goes on from there. -/
theorem run_succ_eq_next {k : Nat} {s t : State} (h : Sys2Proof.core.run (k + 1) s = .next t) :
    ∃ u, step s = .next u ∧ Sys2Proof.core.run k u = .next t := by
  cases hs : step s with
  | next u => exact ⟨u, rfl, (run_succ_of_next hs).symm.trans h⟩
  | fault f => exact nomatch f
  | refused r =>
    rw [Host.Core.run.eq_2 Sys2Proof.core s k] at h
    have hs : Sys2Proof.core.step s = .refused r := hs
    rw [hs] at h
    cases h

/-- A run keeps the environment and the platform and passes one boundary a step. -/
theorem run_keeps_configuration {k : Nat} : ∀ {s t : State}, Sys2Proof.core.run k s = .next t →
    t.oracle = s.oracle ∧ t.cfg = s.cfg ∧ t.boundary = s.boundary + k := by
  induction k with
  | zero =>
    intro s t h
    cases h
    exact ⟨rfl, rfl, rfl⟩
  | succ k ih =>
    intro s t h
    obtain ⟨u, hstep, hrun⟩ := run_succ_eq_next h
    obtain ⟨hcfg, horacle, hboundary⟩ := stepKeepsConfiguration s u hstep
    obtain ⟨horacle', hcfg', hboundary'⟩ := ih hrun
    exact ⟨horacle'.trans horacle, hcfg'.trans hcfg, by rw [hboundary', hboundary]; omega⟩

/-- Settles O58: the sample at a boundary depends on the oracle alone. -/
theorem runConsultsEnvOncePerBoundary : Obligations.RunConsultsEnvOncePerBoundary := by
  intro k s t h
  obtain ⟨horacle, hcfg, hboundary⟩ := run_keeps_configuration h
  refine ⟨horacle, hcfg, hboundary, ?_⟩
  rw [State.env, hboundary, State.sample_congr horacle]

/-! ## A run that has ended -/

/-- The state after one more boundary of a run that has ended. -/
def State.restNext (s : State) : State :=
  { s with i75 := s.i75 || s.env.rst75Edge, boundary := s.boundary + 1 }

theorem restNext_boundary_add (s : State) (k : Nat) : s.restNext.boundary + k = s.boundary + (k + 1) :=
  (Nat.add_assoc _ 1 k).trans (congrArg _ (Nat.add_comm 1 k))

/-- An idle sample brings no reset, no TRAP event and, with IE set, no request that is not masked. -/
theorem idleSample_eq_true {s : State} {e : Env} : s.idleSample e = true ↔
    e.reset = false ∧ e.trapEvent = false ∧ (s.ie = true → (e.rst75Edge && !s.m75) = false ∧
      (e.rst65 && !s.m65) = false ∧ (e.rst55 && !s.m55) = false ∧ e.intr = false) := by
  unfold State.idleSample
  simp only [Bool.and_eq_true, Bool.not_eq_true', Bool.and_eq_false_imp, Bool.or_eq_false_iff, and_assoc]

theorem idleSample_env_of_ended {s : State} (h : s.ended) : s.idleSample s.env = true := by
  obtain ⟨-, -, -, -, hidle⟩ := h
  exact hidle 0

/-- With IE set, RST 7.5 is masked or neither latched nor arriving where the run has ended. -/
theorem rst75_of_ended {s : State} (h : s.ended) : (s.ie && (s.i75 || s.env.rst75Edge) && !s.m75) = false := by
  obtain ⟨-, -, -, hlatched, -⟩ := id h
  obtain ⟨-, -, hmask⟩ := idleSample_eq_true.mp (idleSample_env_of_ended h)
  cases hie : s.ie with
  | false => rfl
  | true =>
    obtain ⟨hedge, -⟩ := hmask hie
    rw [hie, Bool.true_and] at hlatched
    rw [Bool.true_and, Bool.and_or_distrib_right, hlatched, hedge]
    rfl

theorem taken_of_ended {s : State} (h : s.ended) : s.taken = none := by
  have h75 := rst75_of_ended h
  obtain ⟨-, -, htrapl, -, -⟩ := id h
  obtain ⟨-, htrap, hmask⟩ := idleSample_eq_true.mp (idleSample_env_of_ended h)
  rw [State.taken, firstSource_eq_none]
  intro src
  cases hie : s.ie with
  | false => cases src <;> simp [canTake, hie, htrapl, htrap]
  | true =>
    obtain ⟨-, h65, h55, hintr⟩ := hmask hie
    rw [hie, Bool.true_and] at h75
    cases src with
    | trap => simp only [canTake, State.atCheck_trapl, htrapl, htrap, Bool.or_false]
    | rst75 => simp only [canTake, State.atCheck_i75, State.atCheck_m75, h75, Bool.false_and]
    | rst65 => simp only [canTake, State.env_atCheck, State.atCheck_m65, h65, Bool.false_and]
    | rst55 => simp only [canTake, State.env_atCheck, State.atCheck_m55, h55, Bool.false_and]
    | intr => simp only [canTake, State.env_atCheck, hintr, Bool.false_and]

/-- A step of a run that has ended passes the boundary and may latch an RST 7.5 edge. -/
theorem step_of_ended {s : State} (h : s.ended) : step s = .next s.restNext := by
  have ht := taken_of_ended h
  obtain ⟨hr, htrap, -⟩ := idleSample_eq_true.mp (idleSample_env_of_ended h)
  obtain ⟨hhalted, hhold, htrapl, -, -⟩ := h
  have hstep := haltedMachineWaits s hhalted hr ht
  rw [htrapl, htrap] at hstep
  rw [hstep, State.restNext]
  cases s
  simp_all

/-- The next boundaries of a run that has ended are boundaries of it. -/
theorem ended_restNext {s : State} (h : s.ended) : s.restNext.ended := by
  have h75 := rst75_of_ended h
  obtain ⟨hhalted, hhold, htrapl, -, hidle⟩ := h
  refine ⟨hhalted, hhold, htrapl, h75, fun k => ?_⟩
  rw [restNext_boundary_add]
  exact hidle (k + 1)

/-- Settles O57: by induction on the number of steps. -/
theorem endedRunStaysEnded : Obligations.EndedRunStaysEnded := by
  intro s h k
  induction k generalizing s with
  | zero => exact ⟨s, rfl, h, rfl⟩
  | succ k ih =>
    obtain ⟨t, hrun, hended, ht⟩ := ih s.restNext (ended_restNext h)
    refine ⟨t, (run_succ_of_next (step_of_ended h)).trans hrun, hended, ?_⟩
    rw [restNext_boundary_add] at ht
    exact ht

end Sys2Proof.Machine
end
